-- ==== Sys2Proof/Word.lean ====
section
/-! DEFINITION. The two word types of the Mevanta 2460. -/

namespace Sys2Proof

/-- One byte of a frame's payload (spec 11.1: every payload field is given whole bytes). -/
abbrev Byte := BitVec 8

/-- A level-clock value, 0..1,048,575, worked modulo 1,048,576 (R23, R29). -/
abbrev Tick := BitVec 20

end Sys2Proof
end

