-- ==== Sys2Proof/Config.lean ====
section
/-! DEFINITION. The sizes that are fixed in the part, and the values that the manual leaves unstated. -/

namespace Sys2Proof.Config

/-! ### Capacities (spec 00_scope, "Capacities") -/

/-- Bays, numbered 0..127 (R1). -/
abbrev bays : Nat := 128
/-- Classes, numbered 1..15 (R5). -/
abbrev classes : Nat := 15
/-- Slots of the reservation book (R41). -/
abbrev slots : Nat := 512
/-- Generations of a slot: 0..127 (R41). -/
abbrev generations : Nat := 128
/-- Admission policy entries (R66). -/
abbrev policyEntries : Nat := 64
/-- Places of one copy of the budget schedule (R124). -/
abbrev periods : Nat := 16
/-- Feeder branches (spec 00_scope). -/
abbrev branches : Nat := 8
/-- Entries of the walk-up queue (R110). -/
abbrev walkups : Nat := 32
/-- Entries of one start queue (R132). -/
abbrev startQueue : Nat := 32
/-- Bays of one branch that may be in STARTING (R137). -/
abbrev startingPerBranch : Nat := 2
/-- Reseats of one reservation (R86). -/
abbrev reseats : Nat := 3
/-- B-port transmit slots (R167). -/
abbrev bSlots : Nat := 6
/-- Frames of the relay queue (R175). -/
abbrev relay : Nat := 8
/-- Frames of one receive queue (R173, R179). -/
abbrev receive : Nat := 16
/-- Replies of the reply queue (R182). -/
abbrev replies : Nat := 4
/-- Notices of the notice queue (R184). -/
abbrev notices : Nat := 32
/-- S-port transmit slots (R183). -/
abbrev sSlots : Nat := 2
/-- Bytes of a frame's payload (R158). -/
abbrev payload : Nat := 31
/-- Body bytes of one segment (R197). -/
abbrev segment : Nat := 26
/-- Values of the day phase (R24). -/
abbrev phases : Nat := 8640
/-- Idle gaps that a JOINING port counts (R162). -/
abbrev joinGaps : Nat := 8
/-- Idle gaps that a RECOVERING port counts (R162). -/
abbrev recoverGaps : Nat := 80
/-- A clock slew is clamped to this many ticks either way (R27). -/
abbrev slewLimit : Int := 6

/-! ### Values that the manual leaves unstated

Each is a constant with no body: nothing can evaluate it, and a claim about the model holds whatever it is. -/

/-- DESIGN CHOICE (notes/assumptions/2): the length of a record in session whose end an AMEND sets to now
(R56 step 9) when diff(now, start) is not a value of the length field, 0..65,535. -/
opaque unstatedLength : Int → Nat

/-- DESIGN CHOICE (notes/assumptions/3): the state byte of a reply that carries the state of a record "as it
stands" (R52, R57, R90) when that same request has already closed the record. The argument is the handle. -/
opaque goneState : Nat → Nat

/-- DESIGN CHOICE (notes/assumptions/3): the bay byte of such a reply. -/
opaque goneBay : Nat → Nat

/-- DESIGN CHOICE (notes/assumptions/4): the position byte of SESSION_PAUSED (R141) for a bay that a full
queue has displaced (R134), which stands at no position. The argument is the bay. -/
opaque noPosition : Nat → Nat

/-- DESIGN CHOICE (notes/assumptions/5): the outcome byte that QUERY_PORT (R192) gives for a slot that holds a frame.
The argument is the slot. -/
opaque filledOutcome : Nat → Nat

end Sys2Proof.Config
end

