-- ==== Sys2Proof/Syntax.lean ====
section
/-! DEFINITION. The commands of the Mevanta 2460: one constructor per row of spec/opcode_table.json. -/

namespace Sys2Proof

/-- The two bus ports (spec 00_scope). -/
inductive Port where
  /-- The bay port, towards the bay segment. -/
  | b
  /-- The site port, towards the site segment. -/
  | s
  deriving DecidableEq, Repr

/-- The link errors that a receiver finds (R160). -/
inductive RxError where
  | check | form | length
  deriving DecidableEq, Repr

/-- The link errors that a sender finds (R160). -/
inductive TxError where
  | form | echo | bit
  deriving DecidableEq, Repr

/-- A frame as the line carries it (R158, spec 11.2): the 32-bit header, the payload bytes and the 16-bit check. -/
structure WireFrame where
  header : BitVec 32
  payload : List Byte
  check : BitVec 16
  deriving DecidableEq, Repr

/-- A command: one of the part's steps. The operands of a site request, and of a post's report, are in the frame
that the step takes from the head of its port's receive queue (R174, R180), so those constructors carry none; the
frames themselves come in through `bFrameReceived` and `sFrameReceived`. -/
inductive Instr where
  /-- POWER_ON (R195). -/
  | powerOn
  /-- RESET_INPUT (R195). -/
  | resetInput
  /-- TICK (R23). -/
  | tick
  /-- HOLD_BEGIN (R84): the first record in book order whose hold is due. -/
  | holdBegin
  /-- UNSERVED (R89): the first record of the waiting-bay list that this tick found past start plus grace. -/
  | unserved
  /-- WALKUP_EXPIRED (R117): the first walk-up entry from the head whose expiry is reached. -/
  | walkupExpired
  /-- SETTLE_EXPIRY (R107) of one bay. -/
  | settleExpiry (bay : Nat)
  /-- GRACE_EXPIRY (R108) of one bay. -/
  | graceExpiry (bay : Nat)
  /-- PLUG_WAIT_EXPIRY (R99) of one bay. -/
  | plugWaitExpiry (bay : Nat)
  /-- INRUSH_EXPIRY (R140) of one bay. -/
  | inrushExpiry (bay : Nat)
  /-- WINDOW_END_EXPIRY (R103) of one bay. -/
  | windowEndExpiry (bay : Nat)
  /-- OVERSTAY_EXPIRY (R104) of one bay. -/
  | overstayExpiry (bay : Nat)
  /-- SILENCE_LIMIT (R151) of one bay. -/
  | silenceLimit (bay : Nat)
  /-- SCHEDULE_SWITCH (R128). -/
  | scheduleSwitch
  /-- BOOK (R49 to R52). -/
  | book
  /-- AMEND (R56 to R58). -/
  | amend
  /-- CANCEL (R60). -/
  | cancel
  /-- ENTRY (R90). -/
  | entry
  /-- WALKUP (R111). -/
  | walkup
  /-- WALKUP_CANCEL (R118). -/
  | walkupCancel
  /-- QUERY_BAY (R21). -/
  | queryBay
  /-- QUERY_RESERVATION (R62). -/
  | queryReservation
  /-- QUERY_PORT (R192). -/
  | queryPort
  /-- QUERY_PART (R193). -/
  | queryPart
  /-- LOAD_BAY (R2). -/
  | loadBay
  /-- LOAD_CLASS (R6). -/
  | loadClass
  /-- LOAD_POLICY (R67). -/
  | loadPolicy
  /-- LOAD_PERIOD (R126). -/
  | loadPeriod
  /-- COMMIT_SCHEDULE (R127). -/
  | commitSchedule
  /-- SET_PARAM (R188). -/
  | setParam
  /-- CLOCK_SET (R26, R27). -/
  | clockSet
  /-- BAY_WITHDRAW (R16, R17). -/
  | bayWithdraw
  /-- BAY_RESTORE (R19). -/
  | bayRestore
  /-- CLEAR_SUSPECT (R156). -/
  | clearSuspect
  /-- CHECK_PROOF (R153). -/
  | checkProof
  /-- BOOK_CLEAR (R63). -/
  | bookClear
  /-- PORT_CLEAR (R166, R191). -/
  | portClear
  /-- PART_RESET (R194). -/
  | partReset
  /-- POST_DISPLAY (R187). -/
  | postDisplay
  /-- POST_CONFIG (R187). -/
  | postConfig
  /-- REFUSED_FRAME_KIND (R180 steps 1 and 2). -/
  | refusedFrameKind
  /-- POST_STATUS (R148). -/
  | postStatus
  /-- OCCUPIED (R92). -/
  | occupied
  /-- VACATED (R106). -/
  | vacated
  /-- PLUGGED (R93). -/
  | plugged
  /-- UNPLUGGED (R100, R101). -/
  | unplugged
  /-- CHARGE_DONE (R100, R101). -/
  | chargeDone
  /-- POST_FAULT (R152). -/
  | postFault
  /-- OTHER_POST_FRAME (R174). -/
  | otherPostFrame
  /-- B_FRAME_RECEIVED (R173). -/
  | bFrameReceived (frame : WireFrame)
  /-- S_FRAME_RECEIVED (R179). -/
  | sFrameReceived (frame : WireFrame)
  /-- RECEIVE_ERROR (R160). -/
  | receiveError (port : Port) (error : RxError)
  /-- IDLE_GAP (R159). -/
  | idleGap (port : Port)
  /-- JOIN_COMPLETE (R164). -/
  | joinComplete (port : Port)
  /-- RECOVERY_COMPLETE (R164). -/
  | recoveryComplete (port : Port)
  /-- B_SLOT_FILL (R168). -/
  | bSlotFill
  /-- S_SLOT_FILL (R183). -/
  | sSlotFill
  /-- BEGIN_FRAME (R169). -/
  | beginFrame (port : Port)
  /-- FRAME_SENT (R170). -/
  | frameSent (port : Port)
  /-- TRANSMIT_ERROR (R170). -/
  | transmitError (port : Port) (error : TxError)
  /-- LOST_ARBITRATION (R159). -/
  | lostArbitration (port : Port)
  deriving DecidableEq, Repr

end Sys2Proof
end

