-- ==== Sys2Proof/Decode.lean ====
section
/-! DEFINITION. The commands that table words spell. No row of spec/opcode_table.json carries bits: the part has no
register window and no instruction words (spec 00_scope), so no word spells a command. The frames that carry requests and
post reports are read in Machine/Frames.lean and Machine/Operands.lean. -/

namespace Sys2Proof

/-- The command a table word spells: none. -/
def decodeTableWord (_nbits _w : Nat) : Option Instr := none

end Sys2Proof
end

