-- ==== Sys2Proof/Machine/State.lean ====
section
/-! DEFINITION. The state of the Mevanta 2460 as plain data, and its value after a full reset. -/

namespace Sys2Proof.Machine

/-! ## Frames and links -/

/-- A level bus frame by its fields (R158). The kind is the raw code (spec 11.4), so that unknown kinds have a value. -/
structure Frame where
  priority : Nat
  source : Nat
  kind : Nat
  dest : Nat
  payload : List Byte
  deriving DecidableEq, Repr

/-- The five kinds of link error (R160). -/
inductive ErrorKind where
  | check | form | length | echo | bit
  deriving DecidableEq, Repr

/-- The five port states (R162). -/
inductive PortState where
  | joining | active | caution | off | recovering
  deriving DecidableEq, Repr

/-- What the link engine of either port keeps (R161, R162, R173, R178). -/
structure Link where
  state : PortState
  /-- Transmit count, 0..255. -/
  tx : Nat
  /-- Receive count, 0..255. -/
  rx : Nat
  lastError : Option ErrorKind
  /-- Idle-gap count of JOINING and RECOVERING. -/
  gaps : Nat
  overrun : Bool
  deriving DecidableEq, Repr

/-- How a transmit slot was last emptied (R167); `none` is the value after reset. -/
inductive SlotOutcome where
  | none | ok | aborted | failed
  deriving DecidableEq, Repr

/-! ## Bays and classes -/

/-- The ten bay states (spec 1.4). -/
inductive BayState where
  | out | clearing | free | held | occupied | waitingPower | starting | charging | parked | suspect
  deriving DecidableEq, Repr

/-- What the part knows of the vehicle in a bay (R9). -/
inductive Occupant where
  | holder | unknown | foreign
  deriving DecidableEq, Repr

/-- The six purposes of the bay timer (R31). -/
inductive Purpose where
  | settle | grace | plugWait | inrush | windowEnd | overstay
  deriving DecidableEq, Repr

/-- The bay timer (R31): none, running to a deadline, or frozen with remaining ticks. -/
inductive Timer where
  | none
  | running (deadline : Tick) (purpose : Purpose)
  | frozen (remaining : Nat) (purpose : Purpose)
  deriving DecidableEq, Repr

/-- Reasons of a DEENERGISE (R14). -/
inductive PowerReason where
  | sessionEnd | windowEnd | paused | vacated | suspect | withdrawn
  deriving DecidableEq, Repr

/-- The POWER mark's kind, with the reason of a DEENERGISE (R14). -/
inductive PowerMark where
  | energise
  | setCeiling
  | deenergise (reason : PowerReason)
  deriving DecidableEq, Repr

/-- Reasons of a LOCKOUT (R15). -/
inductive AccessReason where
  | foreign | windowPassed | notReady | withdrawn
  deriving DecidableEq, Repr

/-- The lamp modes (R11). The mode is derived, never stored. -/
inductive Lamp where
  | dark | free | reserved | guide | inUse | attention | fault
  deriving DecidableEq, Repr

/-- The charger states of a POST_STATUS (R174). -/
inductive Charger where
  | idle | auth | energised | done | fault
  deriving DecidableEq, Repr

/-- A post's status report (R174). -/
structure Status where
  occupied : Bool
  plugged : Bool
  charger : Charger
  token : Nat
  /-- Metered power, in 0.1 kW. -/
  metered : Nat
  /-- Energy, in 0.01 kWh. -/
  energy : Nat
  deriving DecidableEq, Repr

/-- A bay's map entry (R1, R2). -/
structure MapEntry where
  post : Nat
  branch : Nat
  cls : Nat
  left : Option Nat
  right : Option Nat
  deriving DecidableEq, Repr

/-- A bay record (R1) with the checker's two further items (R147) and the reconcile mark (R164). The loaded flag is
"the map entry is present". -/
structure Bay where
  map : Option MapEntry
  state : BayState
  occupant : Option Occupant
  /-- The handle of the holder. -/
  holder : Option Nat
  timer : Timer
  ceiling : Nat
  /-- Owed mark POWER. -/
  power : Option PowerMark
  /-- Owed mark ACCESS. -/
  access : Option AccessReason
  /-- Owed mark LAMP. -/
  lamp : Bool
  /-- Owed mark QUERY. -/
  query : Bool
  strikes : Nat
  disagree : Nat
  silence : Nat
  relayCount : Nat
  status : Option Status
  /-- The count at which the bay's last POST_STATUS was taken (R147). -/
  statusTick : Option Tick
  proof : Bool
  reconcile : Bool
  /-- The MODEL's own: this tick's comparison found the silence count at the limit (R151) and SILENCE_LIMIT has
  not been taken yet. -/
  silenceDue : Bool
  deriving DecidableEq, Repr

/-- A class entry (R5). -/
structure ClassEntry where
  draw : Nat
  floor : Nat
  lead : Nat
  grace : Nat
  turnover : Nat
  plugWait : Nat
  overstay : Nat
  walkupReserve : Nat
  walkupMin : Nat
  inrush : Nat
  overdrawTol : Nat
  early : Nat
  settle : Nat
  deriving DecidableEq, Repr

/-! ## The reservation book -/

/-- Reservation tiers. -/
inductive Tier where
  | standard | priority | walkup
  deriving DecidableEq, Repr

/-- The six states of a live record (R44). -/
inductive ResState where
  | booked | held | waitingBay | seated | charging | parked
  deriving DecidableEq, Repr

/-- The six captures (R38). -/
structure Captures where
  heldAt : Option Tick
  arrivedAt : Option Tick
  seatedAt : Option Tick
  startedAt : Option Tick
  endedAt : Option Tick
  vacatedAt : Option Tick
  deriving DecidableEq, Repr

/-- A reservation record (R40). The binding is BAY when `bay` is present and CLASS when it is not. -/
structure Reservation where
  handle : Nat
  token : Nat
  cls : Nat
  bay : Option Nat
  tier : Tier
  start : Tick
  length : Nat
  holdBegin : Tick
  endTick : Tick
  intervalEnd : Tick
  /-- Booking order: the record's place among all records by time of insertion, the first after a full reset being 1; fixed
  at insertion (R40; DESIGN CHOICE in the count, notes/assumptions/17). -/
  order : Nat
  state : ResState
  arrived : Bool
  overstay : Bool
  interrupted : Bool
  reseats : Nat
  captures : Captures
  energy : Option Nat
  sessions : Nat
  deriving DecidableEq, Repr

/-- Reasons a record is closed for (R46). -/
inductive CloseReason where
  | completed | noShow | cancelled | unserved | evicted | cleared
  deriving DecidableEq, Repr

/-- A walk-up queue entry (R110). The mask has bit c set for class c. -/
structure WalkEntry where
  token : Nat
  mask : Nat
  stay : Nat
  enqueuedAt : Tick
  expiry : Tick
  deriving DecidableEq, Repr

/-! ## The policy unit -/

/-- The request values a policy entry can test (R66). -/
inductive PolicyField where
  | cls | classMask | length | lead | tier | source | liveCount | tokenLo | tokenHi | freeRun | dayPhase
  deriving DecidableEq, Repr

/-- The conditions of a policy entry (R66). -/
inductive Condition where
  | eq | ne | ult | uge | ugt | ule | lt | ge | gt | le | any | none | always
  deriving DecidableEq, Repr

/-- The actions of a policy entry (R66). -/
inductive PolicyAction where
  | accept | refuse | clampLength | setTier | skip
  deriving DecidableEq, Repr

/-- A valid policy entry (R66); an invalid one is an absent one. -/
structure PolicyEntry where
  field : PolicyField
  condition : Condition
  constant : Nat
  action : PolicyAction
  argument : Nat
  deriving DecidableEq, Repr

/-- policy_default (R80). -/
inductive PolicyDefault where
  | accept | refuse
  deriving DecidableEq, Repr

/-! ## The share unit -/

/-- A period of the budget schedule (R124). -/
structure Period where
  start : Nat
  level : Nat
  branch : Vector Nat Config.branches
  deriving DecidableEq, Repr

/-- An entry of the energised set (R130). -/
structure EnergisedEntry where
  bay : Nat
  branch : Nat
  draw : Nat
  floor : Nat
  start : Tick
  deriving DecidableEq, Repr

/-- An entry of a start queue (R132): a paused entry carries the start tick it had. -/
structure QueueEntry where
  bay : Nat
  paused : Option Tick
  deriving DecidableEq, Repr

/-! ## Settings (R189) -/

/-- b_rx_mode and s_rx_mode. -/
inductive RxMode where
  | keepOldest | keepNewest
  deriving DecidableEq, Repr

/-- b_tx_order. -/
inductive TxOrder where
  | priority | fill
  deriving DecidableEq, Repr

/-- b_recovery. -/
inductive Recovery where
  | auto | manual
  deriving DecidableEq, Repr

/-- The settings of SET_PARAM (R189). -/
structure Settings where
  horizon : Nat
  maxLength : Nat
  statusPeriod : Nat
  silencePeriods : Nat
  sensorTolerance : Nat
  relayDivisor : Nat
  bRxMode : RxMode
  sRxMode : RxMode
  bTxOrder : TxOrder
  bRecovery : Recovery
  policyDefault : PolicyDefault
  walkupPatience : Nat
  walkupStay : Nat
  mgmtNode : Nat
  partAddress : Nat
  deriving DecidableEq, Repr

/-! ## Replies and notices -/

/-- The result codes (spec 11.6). -/
inductive Result where
  | ok | clamped | queued | refusedPolicy | noFit | bookFull | duplicate | beyondHorizon | tooLate | unknownHandle
  | wrongState | inSession | inUse | notReady | badField | notPermitted | levelFull | relayRefused | relayBusy
  | armed | format
  deriving DecidableEq, Repr

/-- COMMIT_SCHEDULE's indication (R127). -/
inductive CommitIndication where
  | switched | armed | withdrawn
  deriving DecidableEq, Repr

/-- The fields a reply carries, by the rule that owns the request (R182). `stateCode` and `bayByte` are the codes of
spec 11.6: of a record the request itself has closed they are unstated. -/
inductive ReplyBody where
  | none
  | book (handle length : Nat) (tier : Tier) (holdBegin : Tick) (stateCode bayByte : Nat)
  | amend (start : Tick) (length : Nat) (endTick holdBegin : Tick) (stateCode bayByte : Nat)
  | closed (reason : CloseReason)
  | entryMatch (handle stateCode bayByte : Nat)
  | entryNoMatch
  | assigned (handle bay cls length : Nat) (grace : Tick)
  | queued (position : Nat) (expiry : Tick)
  | policyRefusal (reason : Nat) (index : Option Nat)
  | position (n : Nat)
  | bay (bay : Bay) (lamp : Lamp)
  | reservation (r : Reservation) (position : Nat) (waiting : Option Nat)
  | bPort (link : Link) (received : Nat) (slots : List (Nat × Nat)) (relay : Nat) (outage : Bool)
  | sPort (link : Link) (received : Nat) (slots : List Nat) (replies notices : Nat) (gapPending : Bool)
  | part (clock : Tick) (phase : Nat) (clockSet : Bool) (live inService walkups : Nat) (armed : Bool)
      (mgmtNode partAddress : Nat)
  | committed (indication : CommitIndication)
  | setting (code value : Nat)
  | clock (count : Tick) (phase : Nat) (shift : Int)
  | count (n : Nat)
  deriving DecidableEq, Repr

/-- A reply in the reply queue (R182). `id` tells slots which reply they carry; `sent` counts the segments that have
completed OK (R197). Both are the MODEL's own. -/
structure Reply where
  id : Nat
  dest : Nat
  tag : Nat
  kind : Nat
  result : Result
  body : ReplyBody
  sent : Nat
  deriving DecidableEq, Repr

/-- HOLD_WAITING's cause (R85). -/
inductive WaitCause where
  | noBay | reseatLimit
  deriving DecidableEq, Repr

/-- FOREIGN_OCCUPANT's cause (R120, R122); POLICY carries the reason and the deciding index. -/
inductive ForeignCause where
  | heldBay
  | notReady
  | policy (reason : Nat) (index : Option Nat)
  | noToken | liveRecord | bookFull | shortRun
  deriving DecidableEq, Repr

/-- WALKUP_ASSIGNED's cause (R114, R116, R119, R121). -/
inductive AssignCause where
  | request | queue | plug | driveIn
  deriving DecidableEq, Repr

/-- SESSION_PAUSED's cause (R141). -/
inductive PauseCause where
  | branchBudget | levelBudget
  deriving DecidableEq, Repr

/-- BAY_STATE's reason (spec 11.6). -/
inductive BayReason where
  | overdraw | sensor | silent | proof | post | cleared | queueFull | withdrawn | restored
  deriving DecidableEq, Repr

/-- SCHEDULE_SWITCHED's cause (R128). -/
inductive SwitchCause where
  | now | boundary
  deriving DecidableEq, Repr

/-- PORT_STATE's cause (R165). -/
inductive PortCause where
  | state | warning | overrun
  deriving DecidableEq, Repr

/-- What a CLOSED notice carries (R45). -/
structure ClosedInfo where
  handle : Nat
  token : Nat
  cls : Nat
  tier : Tier
  reason : CloseReason
  bay : Option Nat
  captures : Captures
  energy : Option Nat
  sessions : Nat
  interrupted : Bool
  dwell : Nat
  deriving DecidableEq, Repr

/-- The notices (spec 11.6) with the fields their own rules give. -/
inductive NoticeBody where
  | holdBegun (handle token cls bay : Nat) (start grace : Tick) (arrived : Bool)
  | holdWaiting (handle token cls : Nat) (start : Tick) (reseats : Nat) (cause : WaitCause)
  | reseated (handle token cls bay : Nat) (start grace : Tick) (arrived : Bool)
  | arrived (handle token : Nat) (state : ResState) (bay : Option Nat)
  | seated (handle token bay : Nat)
  | foreignOccupant (bay token : Nat) (displaced : Option Nat) (cause : ForeignCause)
  | plugWaitExpired (bay : Nat) (occupant : Option Occupant) (holder : Option Nat)
  | sessionStart (handle token bay branch ceiling sessions : Nat) (resumed : Bool)
  | sessionPaused (handle bay branch : Nat) (cause : PauseCause) (position : Option Nat)
  | sessionEnd (handle bay : Nat) (energy : Option Nat) (sessions : Nat)
  | overstay (handle token bay : Nat) (endTick : Tick)
  | closed (info : ClosedInfo)
  | walkupAssigned (handle token cls bay : Nat) (start : Tick) (length : Nat) (cause : AssignCause)
      (enqueuedAt : Option Tick)
  | walkupExpired (token mask : Nat) (enqueuedAt : Tick)
  | bayState (bay : Nat) (state : BayState) (reason : BayReason) (holder : Option Nat)
  | portState (port : Port) (state : PortState) (tx rx : Nat) (lastError : Option ErrorKind) (overrun : Bool)
      (cause : PortCause)
  | scheduleSwitched (cause : SwitchCause) (periods : Nat) (inForce : Option Period)
  | bookCleared (count : Nat)
  | taggedEvent (bay : Nat) (state : BayState) (holder : Option Nat) (payload : List Byte)
  | taggedStatus (bay : Nat) (state : BayState) (holder : Option Nat) (payload : List Byte)
  deriving DecidableEq, Repr

/-- A notice in the notice queue (R184). `id`, `sent` (segments completed OK since the item last began) and `begun`
(segment 0 has completed OK at least once, R197) are the MODEL's own. -/
structure Notice where
  id : Nat
  clock : Tick
  gap : Bool
  sent : Nat
  begun : Bool
  body : NoticeBody
  deriving DecidableEq, Repr

/-! ## Transmit slots -/

/-- What a B-port slot was filled from (R167): a bay's mark, as it stood, or the relay queue. -/
inductive FillOrigin where
  | power (bay : Nat) (mark : PowerMark)
  | access (bay : Nat) (reason : AccessReason)
  | lamp (bay : Nat)
  | query (bay : Nat)
  | relay
  deriving DecidableEq, Repr

/-- What a filled B-port slot records (R167). -/
structure BFill where
  frame : Frame
  origin : FillOrigin
  /-- The fill number. -/
  fill : Nat
  /-- The MODEL's own record of R170: the mark of the slot's bay and family has been set while the slot was SENDING.
  It is clear in a PENDING slot (DEDUCED, notes/assumptions/51). -/
  remarked : Bool
  deriving DecidableEq, Repr

/-- A B-port transmit slot (R167). -/
inductive BSlot where
  | empty (outcome : SlotOutcome)
  | pending (f : BFill)
  | sending (f : BFill)
  deriving DecidableEq, Repr

/-- The item an S-port slot carries a segment of (R183, R197), by its `id`. -/
inductive SItem where
  | reply (id : Nat)
  | notice (id : Nat)
  deriving DecidableEq, Repr

/-- What a filled S-port slot records (R183, R197). -/
structure SFill where
  item : SItem
  frame : Frame
  fill : Nat
  deriving DecidableEq, Repr

/-- An S-port transmit slot (R183). -/
inductive SSlot where
  | empty (outcome : SlotOutcome)
  | pending (f : SFill)
  | sending (f : SFill)
  deriving DecidableEq, Repr

/-- A frame of the relay queue (R187). -/
structure RelayFrame where
  kind : Nat
  dest : Nat
  payload : List Byte
  deriving DecidableEq, Repr

/-- The B-port. -/
structure BPort where
  link : Link
  /-- The receive queue, head first. -/
  rxq : List Frame
  slots : Vector BSlot Config.bSlots
  /-- The fill number the next fill takes. -/
  nextFill : Nat
  relay : List RelayFrame
  /-- The family pointers (R168): the bay last served. -/
  powerPtr : Nat
  accessPtr : Nat
  lampPtr : Nat
  queryPtr : Nat
  outage : Bool
  deriving DecidableEq, Repr

/-- The S-port. -/
structure SPort where
  link : Link
  rxq : List Frame
  slots : Vector SSlot Config.sSlots
  nextFill : Nat
  replies : List Reply
  notices : List Notice
  gapPending : Bool
  resetPending : Bool
  /-- The MODEL's own: the `id` the next reply or notice takes. -/
  nextId : Nat
  deriving DecidableEq, Repr

/-! ## The machine -/

/-- The MODEL's own working list of one event, empty between commands: what the event still has to bring about once
its other effects are finished. -/
structure Work where
  /-- Bays whose timer the event armed at or before now (R32), in the order armed. -/
  due : List Nat
  /-- The event calls for a rescan of the start queues (R136). -/
  rescan : Bool
  /-- Bays the event brought to FREE, for the release service (R88). -/
  freed : List Nat
  deriving DecidableEq, Repr

/-- The state of the part. `pending` is the queue of commands that are waiting, first in, first out. -/
structure State where
  pending : List Instr
  bays : Vector Bay Config.bays
  /-- The class table; class c stands at index c - 1. -/
  classes : Vector (Option ClassEntry) Config.classes
  clock : Tick
  clockSet : Bool
  phase : Nat
  /-- The live records, in book order (R42). -/
  book : List Reservation
  /-- The generation of each slot (R41). -/
  gens : Vector Nat Config.slots
  /-- The waiting-bay list (R43): handles in its order. -/
  waiting : List Nat
  /-- The booking order the next record takes (R40; notes/assumptions/17). -/
  nextOrder : Nat
  policy : Vector (Option PolicyEntry) Config.policyEntries
  walkups : List WalkEntry
  active : Vector (Option Period) Config.periods
  staged : Vector (Option Period) Config.periods
  armed : Bool
  /-- The period in force (R125). -/
  inForce : Option Period
  /-- The energised set, in start order (R130). -/
  energised : List EnergisedEntry
  queues : Vector (List QueueEntry) Config.branches
  settings : Settings
  bp : BPort
  sp : SPort
  /-- The MODEL's own: the share unit was handed a start phase of the active copy while armed, and SCHEDULE_SWITCH
  has not been taken yet (R128). -/
  switchDue : Bool
  /-- The MODEL's own: the handles the last comparison with the clock found due under R89, not yet taken. -/
  unservedDue : List Nat
  work : Work
  deriving DecidableEq, Repr

/-- Why the machine stops. No rule of the manual stops the part: the one fault is an event at a bay that does not exist. -/
inductive Fault where
  /-- Raised by an expiry or silence event whose operand is outside 0..127 (R1: there are 128 bays, numbered 0..127).
  Safe: the event cannot occur. -/
  | noSuchBay
  deriving DecidableEq, Repr

/-- Why a command is given no meaning. -/
inductive Refusal where
  /-- Raised by `exec` alone, for a command that has no meaning in the model yet. Safe: the machine stops there. -/
  | notModelled (mnemonic : String)
  deriving DecidableEq, Repr

/-! ## Full reset (R22, R65, R124, R161 to R168, R182 to R184, R189, R195) -/

/-- A bay record after a full reset (R22, R147). -/
def Bay.blank : Bay where
  map := none
  state := .out
  occupant := none
  holder := none
  timer := .none
  ceiling := 0
  power := none
  access := none
  lamp := false
  query := false
  strikes := 0
  disagree := 0
  silence := 0
  relayCount := 0
  status := none
  statusTick := none
  proof := false
  reconcile := false
  silenceDue := false

/-- No capture is present. -/
def Captures.none : Captures := ⟨.none, .none, .none, .none, .none, .none⟩

/-- The link engine after a full reset (R161, R162, R195). -/
def Link.reset : Link := ⟨.joining, 0, 0, none, 0, false⟩

/-- The settings' reset values (R189). -/
def Settings.reset : Settings where
  horizon := 8640
  maxLength := 4320
  statusPeriod := 3
  silencePeriods := 3
  sensorTolerance := 6
  relayDivisor := 0
  bRxMode := .keepOldest
  sRxMode := .keepOldest
  bTxOrder := .priority
  bRecovery := .auto
  policyDefault := .accept
  walkupPatience := 90
  walkupStay := 720
  mgmtNode := 1
  partAddress := 240

/-- The B-port after a full reset (R195). -/
def BPort.reset : BPort where
  link := Link.reset
  rxq := []
  slots := Vector.replicate _ (.empty .none)
  nextFill := 1
  relay := []
  powerPtr := 127
  accessPtr := 127
  lampPtr := 127
  queryPtr := 127
  outage := false

/-- The S-port after a full reset (R195). -/
def SPort.reset : SPort where
  link := Link.reset
  rxq := []
  slots := Vector.replicate _ (.empty .none)
  nextFill := 1
  replies := []
  notices := []
  gapPending := false
  resetPending := false
  nextId := 0

/-- No work is outstanding. -/
def Work.none : Work := ⟨[], false, []⟩

/-- The part right after a full reset (R195), with no command waiting. -/
def State.reset : State where
  pending := []
  bays := Vector.replicate _ Bay.blank
  classes := Vector.replicate _ none
  clock := 0
  clockSet := false
  phase := 0
  book := []
  gens := Vector.replicate _ 0
  waiting := []
  nextOrder := 1
  policy := Vector.replicate _ none
  walkups := []
  active := Vector.replicate _ none
  staged := Vector.replicate _ none
  armed := false
  inForce := none
  energised := []
  queues := Vector.replicate _ []
  settings := Settings.reset
  bp := BPort.reset
  sp := SPort.reset
  switchDue := false
  unservedDue := []
  work := Work.none

end Sys2Proof.Machine
end

