-- ==== Sys2Proof/Machine/Codes.lean ====
section
/-! DEFINITION. The code of every kind, result, reason and enumeration (spec 11.4 and 11.6). -/

namespace Sys2Proof.Machine

/-! ### Kind codes (spec 11.4) -/

namespace Kind
abbrev postStatus : Nat := 0x01
abbrev postEvent : Nat := 0x02
abbrev setLamp : Nat := 0x10
abbrev energise : Nat := 0x11
abbrev setCeiling : Nat := 0x12
abbrev deenergise : Nat := 0x13
abbrev lockout : Nat := 0x14
abbrev queryPost : Nat := 0x15
abbrev postDisplay : Nat := 0x20
abbrev postConfig : Nat := 0x21
abbrev book : Nat := 0x40
abbrev amend : Nat := 0x41
abbrev cancel : Nat := 0x42
abbrev entry : Nat := 0x43
abbrev walkup : Nat := 0x44
abbrev walkupCancel : Nat := 0x45
abbrev queryBay : Nat := 0x46
abbrev queryReservation : Nat := 0x47
abbrev queryPort : Nat := 0x48
abbrev queryPart : Nat := 0x49
abbrev loadBay : Nat := 0x50
abbrev loadClass : Nat := 0x51
abbrev loadPolicy : Nat := 0x52
abbrev loadPeriod : Nat := 0x53
abbrev commitSchedule : Nat := 0x54
abbrev setParam : Nat := 0x55
abbrev clockSet : Nat := 0x56
abbrev bayWithdraw : Nat := 0x57
abbrev bayRestore : Nat := 0x58
abbrev clearSuspect : Nat := 0x59
abbrev checkProof : Nat := 0x5A
abbrev bookClear : Nat := 0x5B
abbrev portClear : Nat := 0x5C
abbrev partReset : Nat := 0x5D
abbrev reply : Nat := 0x80
abbrev notice : Nat := 0x81
end Kind

/-- The kinds that go on to step 3 of request intake: requests and relay kinds (R180 step 2). -/
def isRequestKind (k : Nat) : Bool :=
  (Kind.book ≤ k && k ≤ Kind.queryPart) || (Kind.loadBay ≤ k && k ≤ Kind.partReset)
    || k == Kind.postDisplay || k == Kind.postConfig

/-- The kinds that the bay segment carries between the part and its posts (R180 step 2). -/
def isBaySegmentKind (k : Nat) : Bool :=
  k == Kind.postStatus || k == Kind.postEvent || (Kind.setLamp ≤ k && k ≤ Kind.queryPost)

/-- The management requests (R181). -/
def isManagementKind (k : Nat) : Bool := Kind.loadBay ≤ k && k ≤ Kind.partReset

/-! ### Enumerations (spec 11.6) -/

def Result.code : Result → Nat
  | .ok => 0 | .clamped => 1 | .queued => 2 | .refusedPolicy => 3 | .noFit => 4 | .bookFull => 5 | .duplicate => 6
  | .beyondHorizon => 7 | .tooLate => 8 | .unknownHandle => 9 | .wrongState => 10 | .inSession => 11 | .inUse => 12
  | .notReady => 13 | .badField => 14 | .notPermitted => 15 | .levelFull => 16 | .relayRefused => 17
  | .relayBusy => 18 | .armed => 19 | .format => 20

def CloseReason.code : CloseReason → Nat
  | .completed => 1 | .noShow => 2 | .cancelled => 3 | .unserved => 4 | .evicted => 5 | .cleared => 6

def Tier.code : Tier → Nat
  | .standard => 0 | .priority => 1 | .walkup => 2

def ResState.code : ResState → Nat
  | .booked => 0 | .held => 1 | .waitingBay => 2 | .seated => 3 | .charging => 4 | .parked => 5

def BayState.code : BayState → Nat
  | .out => 0 | .clearing => 1 | .free => 2 | .held => 3 | .occupied => 4 | .waitingPower => 5 | .starting => 6
  | .charging => 7 | .parked => 8 | .suspect => 9

def Occupant.code : Occupant → Nat
  | .holder => 1 | .unknown => 2 | .foreign => 3

def Lamp.code : Lamp → Nat
  | .dark => 0 | .free => 1 | .reserved => 2 | .guide => 3 | .inUse => 4 | .attention => 5 | .fault => 6

def Purpose.code : Purpose → Nat
  | .settle => 1 | .grace => 2 | .plugWait => 3 | .inrush => 4 | .windowEnd => 5 | .overstay => 6

def PowerReason.code : PowerReason → Nat
  | .sessionEnd => 1 | .windowEnd => 2 | .paused => 3 | .vacated => 4 | .suspect => 5 | .withdrawn => 6

def AccessReason.code : AccessReason → Nat
  | .foreign => 1 | .windowPassed => 2 | .notReady => 3 | .withdrawn => 4

def Charger.code : Charger → Nat
  | .idle => 0 | .auth => 1 | .energised => 2 | .done => 3 | .fault => 4

/-- A charger state from its code (R198: a code outside the list makes the payload malformed). -/
def Charger.ofCode : Nat → Option Charger
  | 0 => some .idle | 1 => some .auth | 2 => some .energised | 3 => some .done | 4 => some .fault | _ => none

def BayReason.code : BayReason → Nat
  | .overdraw => 1 | .sensor => 2 | .silent => 3 | .proof => 4 | .post => 5 | .cleared => 6 | .queueFull => 7
  | .withdrawn => 8 | .restored => 9

def WaitCause.code : WaitCause → Nat
  | .noBay => 1 | .reseatLimit => 2

def AssignCause.code : AssignCause → Nat
  | .request => 1 | .queue => 2 | .plug => 3 | .driveIn => 4

def ForeignCause.code : ForeignCause → Nat
  | .heldBay => 1 | .notReady => 2 | .policy _ _ => 3 | .noToken => 4 | .liveRecord => 5 | .bookFull => 6
  | .shortRun => 7

def PauseCause.code : PauseCause → Nat
  | .branchBudget => 1 | .levelBudget => 2

def SwitchCause.code : SwitchCause → Nat
  | .now => 1 | .boundary => 2

def CommitIndication.code : CommitIndication → Nat
  | .switched => 1 | .armed => 2 | .withdrawn => 3

def portCode : Port → Nat
  | .b => 0 | .s => 1

/-- A port from its code; any other code is BAD_FIELD (R191, R192). -/
def portOfCode : Nat → Option Port
  | 0 => some .b | 1 => some .s | _ => none

def PortState.code : PortState → Nat
  | .joining => 0 | .active => 1 | .caution => 2 | .off => 3 | .recovering => 4

def ErrorKind.code : ErrorKind → Nat
  | .check => 1 | .form => 2 | .length => 3 | .echo => 4 | .bit => 5

def PortCause.code : PortCause → Nat
  | .state => 1 | .warning => 2 | .overrun => 3

def SlotOutcome.code : SlotOutcome → Nat
  | .none => 0 | .ok => 1 | .aborted => 2 | .failed => 3

def BSlot.stateCode : BSlot → Nat
  | .empty _ => 0 | .pending _ => 1 | .sending _ => 2

/-- The outcome code a slot shows (R167, R192). An EMPTY slot shows the outcome it left; of a filled slot the manual
states none, so it is a free value (notes/assumptions/5). -/
def BSlot.outcomeCode (i : Nat) : BSlot → Nat
  | .empty o => o.code | .pending _ => Config.filledOutcome i | .sending _ => Config.filledOutcome i

def SSlot.stateCode : SSlot → Nat
  | .empty _ => 0 | .pending _ => 1 | .sending _ => 2

def PolicyField.ofCode : Nat → Option PolicyField
  | 0 => some .cls | 1 => some .classMask | 2 => some .length | 3 => some .lead | 4 => some .tier
  | 5 => some .source | 6 => some .liveCount | 7 => some .tokenLo | 8 => some .tokenHi | 9 => some .freeRun
  | 10 => some .dayPhase | _ => none

def Condition.ofCode : Nat → Option Condition
  | 0 => some .eq | 1 => some .ne | 2 => some .ult | 3 => some .uge | 4 => some .ugt | 5 => some .ule | 6 => some .lt
  | 7 => some .ge | 8 => some .gt | 9 => some .le | 10 => some .any | 11 => some .none | 12 => some .always
  | _ => none

def PolicyAction.ofCode : Nat → Option PolicyAction
  | 0 => some .accept | 1 => some .refuse | 2 => some .clampLength | 3 => some .setTier | 4 => some .skip
  | _ => none

/-- The error kind of a receiver's link error (R160). -/
def rxErrorKind : RxError → ErrorKind
  | .check => .check | .form => .form | .length => .length

/-- The error kind of a sender's link error (R160). -/
def txErrorKind : TxError → ErrorKind
  | .form => .form | .echo => .echo | .bit => .bit

end Sys2Proof.Machine
end

