-- ==== Sys2Proof/Machine/Time.lean ====
section
/-! DEFINITION. Modular time (R29, R30) and the day phase (R24). -/

namespace Sys2Proof.Machine

/-- The modular difference diff(a, b) (R29): how many ticks a lies after b, from -524,288 to 524,287. -/
def diff (a b : Tick) : Int :=
  let raw := (a - b).toNat
  if raw < 524288 then raw else (raw : Int) - 1048576

/-- a is at or after b (R30). -/
def atOrAfter (a b : Tick) : Bool := 0 ≤ diff a b

/-- a is after b (R30). -/
def isAfter (a b : Tick) : Bool := 0 < diff a b

/-- a is before b (R30). -/
def isBefore (a b : Tick) : Bool := diff a b < 0

/-- t lies in the interval [a, b) (R30). -/
def inInterval (t a b : Tick) : Bool := atOrAfter t a && isBefore t b

/-- The intervals [a, b) and [c, d) intersect (R30). -/
def intersects (a b c d : Tick) : Bool := isBefore c b && isBefore a d

/-- A time plus a duration, worked modulo 1,048,576 (R29). -/
def plusTicks (t : Tick) (n : Nat) : Tick := t + BitVec.ofNat 20 n

/-- A time less a duration, worked modulo 1,048,576 (R29). -/
def minusTicks (t : Tick) (n : Nat) : Tick := t - BitVec.ofNat 20 n

/-- A time moved by a signed shift, worked modulo 1,048,576 (R26, R27). -/
def shiftTick (t : Tick) (d : Int) : Tick := t + BitVec.ofInt 20 d

/-- The day phase after one tick (R24). -/
def nextPhase (p : Nat) : Nat := (p + 1) % Config.phases

/-- The day phase moved by a signed shift, modulo 8,640 (R27). -/
def shiftPhase (p : Nat) (d : Int) : Nat := (((p : Int) + d) % (Config.phases : Int)).toNat

/-- The shift of a slew, clamped to -6..+6 (R27). -/
def clampShift (d : Int) : Int := max (-Config.slewLimit) (min Config.slewLimit d)

end Sys2Proof.Machine
end

