-- ==== Sys2Proof/Machine/Operands.lean ====
section
/-! DEFINITION. The operand forms: how each request's and each post frame's fields are read from its payload
(spec 11.1, 11.3, R198). A reading answers `none` exactly when the payload is malformed for its kind. -/

namespace Sys2Proof.Machine

/-! ### Field encodings (spec 11.1) -/

/-- A field of several bytes, most significant first. -/
def beNat (bs : List Byte) : Nat := bs.foldl (fun n b => n * 256 + b.toNat) 0

/-- The `n`-byte field that begins at byte `at'`. -/
def field (bs : List Byte) (pos n : Nat) : Nat := beNat ((bs.drop pos).take n)

/-- A flag byte: 0 clear, 1 set, any other value malformed (R198). -/
def flagAt (bs : List Byte) (pos : Nat) : Option Bool :=
  match field bs pos 1 with
  | 0 => some false
  | 1 => some true
  | _ => none

/-- An optional bay: 0xFF means none. -/
def bayOpt (n : Nat) : Option Nat := if n = 255 then none else some n

/-- The payload has its kind's fixed length (R198). -/
def hasLength (bs : List Byte) (n : Nat) : Bool := bs.length == n

/-- The tag, the first field of every request payload (R180 step 1); `none` when the payload is too short to hold it. -/
def tagOf (bs : List Byte) : Option Nat := if bs.length < 2 then none else some (field bs 0 2)

/-! ### Requests -/

/-- BOOK (spec 3.6, 11.3). -/
structure BookReq where
  token : Nat
  cls : Nat
  bay : Option Nat
  start : Nat
  length : Nat
  tier : Nat
  deriving DecidableEq, Repr

def parseBook (p : List Byte) : Option BookReq :=
  if hasLength p 14 then
    some ⟨field p 2 4, field p 6 1, bayOpt (field p 7 1), field p 8 3, field p 11 2, field p 13 1⟩
  else none

/-- AMEND (spec 3.8, 11.3): `none` is "unchanged". -/
structure AmendReq where
  handle : Nat
  start : Option Nat
  length : Option Nat
  deriving DecidableEq, Repr

def parseAmend (p : List Byte) : Option AmendReq :=
  if hasLength p 9 then
    some ⟨field p 2 2, (if field p 4 3 = 0xFFFFFF then none else some (field p 4 3)),
      (if field p 7 2 = 0 then none else some (field p 7 2))⟩
  else none

/-- CANCEL and QUERY_RESERVATION: a handle. -/
def parseHandle (p : List Byte) : Option Nat := if hasLength p 4 then some (field p 2 2) else none

/-- ENTRY and WALKUP_CANCEL: a token. -/
def parseToken (p : List Byte) : Option Nat := if hasLength p 6 then some (field p 2 4) else none

/-- WALKUP: token and class mask. -/
def parseWalkup (p : List Byte) : Option (Nat × Nat) :=
  if hasLength p 8 then some (field p 2 4, field p 6 2) else none

/-- QUERY_BAY, BAY_RESTORE, CLEAR_SUSPECT, CHECK_PROOF, and the port of QUERY_PORT and PORT_CLEAR: one byte. -/
def parseByte (p : List Byte) : Option Nat := if hasLength p 3 then some (field p 2 1) else none

/-- QUERY_PART, BOOK_CLEAR and PART_RESET: the tag alone. -/
def parseEmpty (p : List Byte) : Option Unit := if hasLength p 2 then some () else none

/-- LOAD_BAY (spec 1.2). -/
structure LoadBayReq where
  bay : Nat
  post : Nat
  branch : Nat
  cls : Nat
  left : Option Nat
  right : Option Nat
  deriving DecidableEq, Repr

def parseLoadBay (p : List Byte) : Option LoadBayReq :=
  if hasLength p 8 then
    some ⟨field p 2 1, field p 3 1, field p 4 1, field p 5 1, bayOpt (field p 6 1), bayOpt (field p 7 1)⟩
  else none

/-- LOAD_CLASS (R6). DESIGN CHOICE (notes/assumptions/6): a field whose whole range lies below 256 takes one byte,
the others two. -/
def parseLoadClass (p : List Byte) : Option (Nat × ClassEntry) :=
  if hasLength p 21 then
    some (field p 2 1, {
      draw := field p 3 1
      floor := field p 4 1
      lead := field p 5 2
      grace := field p 7 2
      turnover := field p 9 1
      plugWait := field p 10 1
      overstay := field p 11 2
      walkupReserve := field p 13 1
      walkupMin := field p 14 2
      inrush := field p 16 1
      overdrawTol := field p 17 1
      early := field p 18 2
      settle := field p 20 1 })
  else none

/-- LOAD_POLICY (R67). -/
structure LoadPolicyReq where
  index : Nat
  valid : Bool
  field : Nat
  condition : Nat
  constant : Nat
  action : Nat
  argument : Nat
  deriving DecidableEq, Repr

/-- LOAD_POLICY (R67): index in 1 byte, constant and argument in 2 each (DESIGN CHOICE, notes/assumptions/46). -/
def parseLoadPolicy (p : List Byte) : Option LoadPolicyReq :=
  if hasLength p 11 then
    (flagAt p 3).map fun v =>
      ⟨field p 2 1, v, field p 4 1, field p 5 1, field p 6 2, field p 8 1, field p 9 2⟩
  else none

/-- LOAD_PERIOD (R126). -/
structure LoadPeriodReq where
  index : Nat
  valid : Bool
  start : Nat
  level : Nat
  branch : Vector Nat Config.branches
  deriving DecidableEq, Repr

/-- LOAD_PERIOD (R126): index in 1 byte, phase and budgets in 2 each, 24 bytes with the tag (DESIGN CHOICE for the index,
notes/assumptions/46). -/
def parseLoadPeriod (p : List Byte) : Option LoadPeriodReq :=
  if hasLength p 24 then
    (flagAt p 3).map fun v =>
      ⟨field p 2 1, v, field p 4 2, field p 6 2,
        #v[field p 8 2, field p 10 2, field p 12 2, field p 14 2, field p 16 2, field p 18 2, field p 20 2,
          field p 22 2]⟩
  else none

/-- COMMIT_SCHEDULE (R127): the withdraw flag. -/
def parseCommit (p : List Byte) : Option Bool := if hasLength p 3 then flagAt p 2 else none

/-- SET_PARAM (R188): setting code and value. -/
def parseSetParam (p : List Byte) : Option (Nat × Nat) :=
  if hasLength p 5 then some (field p 2 1, field p 3 2) else none

/-- CLOCK_SET (R26): time and day phase. -/
def parseClockSet (p : List Byte) : Option (Nat × Nat) :=
  if hasLength p 7 then some (field p 2 3, field p 5 2) else none

/-- BAY_WITHDRAW (R16): bay and force flag. -/
def parseWithdraw (p : List Byte) : Option (Nat × Bool) :=
  if hasLength p 4 then (flagAt p 3).map fun v => (field p 2 1, v) else none

/-- POST_DISPLAY and POST_CONFIG (R187): target and the bytes to be relayed. -/
def parseRelay (p : List Byte) : Option (Nat × List Byte) :=
  if 3 ≤ p.length ∧ p.length ≤ Config.payload then some (field p 2 1, p.drop 3) else none

/-! ### Post frames (R174, spec 11.3) -/

/-- POST_STATUS; an enumeration byte outside its list is malformed (R198). -/
def parseStatus (p : List Byte) : Option Status :=
  if hasLength p 11 then
    match flagAt p 0, flagAt p 1, Charger.ofCode (field p 2 1) with
    | some occ, some plug, some ch => some ⟨occ, plug, ch, field p 3 4, field p 7 2, field p 9 2⟩
    | _, _, _ => none
  else none

/-- The post events (R174). -/
inductive PostEvent where
  | occupied
  | vacated
  | plugged (token : Nat)
  | unplugged
  | chargeDone
  | postFault
  deriving DecidableEq, Repr

/-- POST_EVENT: the token is read for PLUGGED and ignored for every other event (spec 11.3). -/
def parseEvent (p : List Byte) : Option PostEvent :=
  if hasLength p 5 then
    match field p 0 1 with
    | 1 => some .occupied
    | 2 => some .vacated
    | 3 => some (.plugged (field p 1 4))
    | 4 => some .unplugged
    | 5 => some .chargeDone
    | 6 => some .postFault
    | _ => none
  else none

/-- What a frame at the head of the B-port receive queue is (R174, R198). -/
inductive PostFrame where
  | status (st : Status)
  | event (e : PostEvent)
  | other
  deriving DecidableEq, Repr

/-- A frame of another kind, or with a malformed payload, is `other`. -/
def readPostFrame (f : Frame) : PostFrame :=
  if f.kind = Kind.postStatus then
    match parseStatus f.payload with
    | some st => .status st
    | none => .other
  else if f.kind = Kind.postEvent then
    match parseEvent f.payload with
    | some e => .event e
    | none => .other
  else .other

end Sys2Proof.Machine
end

