-- ==== Sys2Proof/Machine/Frames.lean ====
section
/-! DEFINITION. The frame on the line: the header's layout (spec 11.2), the check (R158) and the reading of both. -/

namespace Sys2Proof.Machine

/-- The 32 header bits of a frame (spec 11.2): priority, source, payload length, kind, destination. -/
def Frame.header (f : Frame) : BitVec 32 :=
  BitVec.ofNat 32 (f.priority * 536870912 + f.source * 2097152 + f.payload.length * 65536 + f.kind * 256 + f.dest)

/-- One bit into the check register: the generator is x^16 + x^12 + x^5 + 1 (R158). -/
def crcBit (reg : BitVec 16) (bit : Bool) : BitVec 16 :=
  if reg.msb != bit then (reg <<< 1) ^^^ 0x1021#16 else reg <<< 1

/-- A byte into the check register, most significant bit first (R158). -/
def crcByte (reg : BitVec 16) (b : Byte) : BitVec 16 :=
  [7, 6, 5, 4, 3, 2, 1, 0].foldl (fun r i => crcBit r (b.getLsbD i)) reg

/-- The four header bytes, most significant first. -/
def headerBytes (h : BitVec 32) : List Byte :=
  [BitVec.ofNat 8 (h.toNat / 16777216), BitVec.ofNat 8 (h.toNat / 65536), BitVec.ofNat 8 (h.toNat / 256),
    BitVec.ofNat 8 h.toNat]

/-- The check over header and payload: the register starts at all ones and is sent without inversion (R158). -/
def checkOf (h : BitVec 32) (payload : List Byte) : BitVec 16 :=
  (headerBytes h ++ payload).foldl crcByte 0xFFFF#16

/-- A frame as its sender puts it on the line. -/
def Frame.wire (f : Frame) : WireFrame := ⟨f.header, f.payload, checkOf f.header f.payload⟩

/-- The payload length that the header gives. -/
def wireLength (w : WireFrame) : Nat := w.header.toNat / 65536 % 32

/-- What a receiver makes of a frame on the line: its fields, or the link error it finds (R160). The end delimiter
falls where the payload ends, so a payload of another length than the header's is a LENGTH error, also when its check is
wrong as well (DESIGN CHOICE, notes/assumptions/60). -/
def readWire (w : WireFrame) : Except RxError Frame :=
  if w.payload.length ≠ wireLength w then .error .length
  else if w.check ≠ checkOf w.header w.payload then .error .check
  else .ok {
    priority := w.header.toNat / 536870912
    source := w.header.toNat / 2097152 % 256
    kind := w.header.toNat / 256 % 256
    dest := w.header.toNat % 256
    payload := w.payload }

/-- The fields of a frame lie in the ranges of R158. -/
def Frame.inRange (f : Frame) : Bool :=
  f.priority < 8 && f.source < 256 && f.kind < 256 && f.dest < 256 && f.payload.length ≤ Config.payload

end Sys2Proof.Machine
end

