-- ==== Sys2Proof/Machine/Bodies.lean ====
section
/-! DEFINITION. The bytes of replies and notices (spec 11.1, 11.5, R197). The CLOSED body, the BOOK reply body and the
two 5-byte headers are laid out in the manual; of every other body the manual gives the fields and their order, and the
bytes follow from the field encodings (notes/assumptions/7). -/

namespace Sys2Proof.Machine

/-! ### Field encodings -/

/-- A number in `n` bytes, most significant first. -/
def beBytes : Nat → Nat → List Byte
  | 0, _ => []
  | n + 1, x => BitVec.ofNat 8 (x / 256 ^ n) :: beBytes n x

def byte1 (x : Nat) : List Byte := beBytes 1 x
def byte2 (x : Nat) : List Byte := beBytes 2 x
def byte4 (x : Nat) : List Byte := beBytes 4 x
def tick3 (t : Tick) : List Byte := beBytes 3 t.toNat
def flag1 (b : Bool) : List Byte := byte1 (if b then 1 else 0)

/-- The byte of an optional bay: 0xFF means none. -/
def bayCode (b : Option Nat) : Nat := b.getD 255

def bay1 (b : Option Nat) : List Byte := byte1 (bayCode b)

/-- An optional value other than a bay or a token: a presence byte, then the value, or zeros. -/
def opt (n : Nat) (x : Option Nat) : List Byte :=
  match x with
  | some v => byte1 1 ++ beBytes n v
  | none => byte1 0 ++ beBytes n 0

def optTick (t : Option Tick) : List Byte := opt 3 (t.map (·.toNat))

/-- The occupant's code: 0 means none. -/
def occupantCode (o : Option Occupant) : Nat := (o.map Occupant.code).getD 0

/-- The error kind's code: 0 means none. -/
def errorCode (e : Option ErrorKind) : Nat := (e.map ErrorKind.code).getD 0

/-- The deciding index: 255 means default. -/
def indexCode (i : Option Nat) : Nat := i.getD 255

/-- The period in force in a SCHEDULE_SWITCHED notice, or none (R128). -/
def periodBytes (p : Option Period) : List Byte :=
  match p with
  | some q => byte1 1 ++ byte2 q.start ++ byte2 q.level ++ q.branch.toList.flatMap byte2
  | none => byte1 0 ++ List.replicate 20 0

/-! ### Notice bodies -/

/-- Bit i of the presence byte of a CLOSED body. -/
def presence (i : Nat) (p : Bool) : Nat := if p then 2 ^ i else 0

/-- The 36-byte CLOSED body (spec 11.5). -/
def closedBytes (c : ClosedInfo) : List Byte :=
  let k := c.captures
  let cap (t : Option Tick) : List Byte := tick3 (t.getD 0)
  byte2 c.handle ++ byte4 c.token ++ byte1 c.cls ++ byte1 c.tier.code ++ byte1 c.reason.code ++ bay1 c.bay
    ++ byte1 (presence 0 k.heldAt.isSome + presence 1 k.arrivedAt.isSome + presence 2 k.seatedAt.isSome
      + presence 3 k.startedAt.isSome + presence 4 k.endedAt.isSome + presence 5 k.vacatedAt.isSome
      + presence 6 c.energy.isSome)
    ++ cap k.heldAt ++ cap k.arrivedAt ++ cap k.seatedAt ++ cap k.startedAt ++ cap k.endedAt ++ cap k.vacatedAt
    ++ byte2 (c.energy.getD 0) ++ byte1 c.sessions ++ flag1 c.interrupted ++ beBytes 3 c.dwell

/-- The notice kind code (spec 11.6). -/
def NoticeBody.code : NoticeBody → Nat
  | .holdBegun .. => 1 | .holdWaiting .. => 2 | .reseated .. => 3 | .arrived .. => 4 | .seated .. => 5
  | .foreignOccupant .. => 6 | .plugWaitExpired .. => 7 | .sessionStart .. => 8 | .sessionPaused .. => 9
  | .sessionEnd .. => 10 | .overstay .. => 11 | .closed .. => 12 | .walkupAssigned .. => 13
  | .walkupExpired .. => 14 | .bayState .. => 15 | .portState .. => 16 | .scheduleSwitched .. => 17
  | .bookCleared .. => 18 | .taggedEvent .. => 19 | .taggedStatus .. => 20

/-- The fields of a notice, in the order its own rule lists them. The 2 bytes of BOOK_CLEARED's count (R63), and that a
FOREIGN_OCCUPANT of a cause other than POLICY leaves the reason and the index out (R122), are the model's (DESIGN CHOICE,
notes/assumptions/41, 49). -/
def NoticeBody.bytes : NoticeBody → List Byte
  | .holdBegun h t c b st g a | .reseated h t c b st g a =>
    byte2 h ++ byte4 t ++ byte1 c ++ byte1 b ++ tick3 st ++ tick3 g ++ flag1 a
  | .holdWaiting h t c st r cause =>
    byte2 h ++ byte4 t ++ byte1 c ++ tick3 st ++ byte1 r ++ byte1 cause.code
  | .arrived h t st b => byte2 h ++ byte4 t ++ byte1 st.code ++ bay1 b
  | .seated h t b => byte2 h ++ byte4 t ++ byte1 b
  | .foreignOccupant b t d cause =>
    byte1 b ++ byte4 t ++ opt 2 d ++ byte1 cause.code ++
      (match cause with | .policy r i => byte1 r ++ byte1 (indexCode i) | _ => [])
  | .plugWaitExpired b o h => byte1 b ++ byte1 (occupantCode o) ++ opt 2 h
  | .sessionStart h t b br c n r =>
    byte2 h ++ byte4 t ++ byte1 b ++ byte1 br ++ byte1 c ++ byte1 n ++ flag1 r
  | .sessionPaused h b br cause pos =>
    byte2 h ++ byte1 b ++ byte1 br ++ byte1 cause.code ++ byte1 (pos.getD (Config.noPosition b))
  | .sessionEnd h b e n => byte2 h ++ byte1 b ++ opt 2 e ++ byte1 n
  | .overstay h t b e => byte2 h ++ byte4 t ++ byte1 b ++ tick3 e
  | .closed c => closedBytes c
  | .walkupAssigned h t c b st len cause enq =>
    byte2 h ++ byte4 t ++ byte1 c ++ byte1 b ++ tick3 st ++ byte2 len ++ byte1 cause.code ++ optTick enq
  | .walkupExpired t m e => byte4 t ++ byte2 m ++ tick3 e
  | .bayState b st r h => byte1 b ++ byte1 st.code ++ byte1 r.code ++ opt 2 h
  | .portState p st tx rx e o cause =>
    byte1 (portCode p) ++ byte1 st.code ++ byte1 tx ++ byte1 rx ++ byte1 (errorCode e) ++ flag1 o
      ++ byte1 cause.code
  | .scheduleSwitched cause n p => byte1 cause.code ++ byte1 n ++ periodBytes p
  | .bookCleared n => byte2 n
  | .taggedEvent b st h p | .taggedStatus b st h p => byte1 b ++ byte1 st.code ++ opt 2 h ++ p

/-- TAGGED_EVENT and TAGGED_STATUS are sent with priority 5, every other notice with priority 4 (R183). -/
def NoticeBody.priority : NoticeBody → Nat
  | .taggedEvent .. | .taggedStatus .. => 5
  | _ => 4

/-! ### Reply bodies -/

/-- A post's status as QUERY_BAY shows it. -/
def statusBytes (st : Status) : List Byte :=
  flag1 st.occupied ++ flag1 st.plugged ++ byte1 st.charger.code ++ byte4 st.token ++ byte2 st.metered
    ++ byte2 st.energy

def PowerMark.kindCode : PowerMark → Nat
  | .energise => 1 | .setCeiling => 2 | .deenergise _ => 3

/-- The reason byte of a POWER mark; 0, with no presence byte of its own, for a kind that carries no reason (DESIGN CHOICE,
notes/assumptions/52). -/
def PowerMark.reasonCode : PowerMark → Nat
  | .deenergise r => r.code | _ => 0

/-- The timer as QUERY_BAY shows it: purpose, frozen flag, and the deadline or the remaining ticks in 3 bytes (R21, R31). The
flag byte and the width are the model's (DESIGN CHOICE, notes/assumptions/42). -/
def timerBytes : Timer → List Byte
  | .none => byte1 0 ++ flag1 false ++ beBytes 3 0
  | .running d p => byte1 p.code ++ flag1 false ++ tick3 d
  | .frozen n p => byte1 p.code ++ flag1 true ++ beBytes 3 n

/-- The bay record as QUERY_BAY shows it (R21). The five zeros of an unloaded bay's map entry, the 2 bytes of the silence
ticks and the bare 0 of an absent POWER reason are the model's (DESIGN CHOICE, notes/assumptions/43, 41, 52). -/
def bayBytes (b : Bay) (l : Lamp) : List Byte :=
  flag1 b.map.isSome
    ++ (match b.map with
        | some m => byte1 m.post ++ byte1 m.branch ++ byte1 m.cls ++ bay1 m.left ++ bay1 m.right
        | none => List.replicate 5 0)
    ++ byte1 b.state.code ++ byte1 (occupantCode b.occupant) ++ opt 2 b.holder ++ byte1 l.code
    ++ timerBytes b.timer ++ byte1 b.ceiling
    ++ flag1 b.power.isSome ++ byte1 ((b.power.map PowerMark.kindCode).getD 0)
    ++ byte1 ((b.power.map PowerMark.reasonCode).getD 0)
    ++ flag1 b.access.isSome ++ byte1 ((b.access.map AccessReason.code).getD 0)
    ++ flag1 b.lamp ++ flag1 b.query
    ++ byte1 b.strikes ++ byte1 b.disagree ++ byte2 b.silence
    ++ (match b.status with
        | some st => byte1 1 ++ statusBytes st
        | none => byte1 0 ++ List.replicate 11 0)

/-- A record as QUERY_RESERVATION shows it (R40, R62). The 4 bytes of the booking order and the 2 of the two positions are the
model's (DESIGN CHOICE, notes/assumptions/17, 41). -/
def reservationBytes (r : Reservation) (position : Nat) (waiting : Option Nat) : List Byte :=
  let k := r.captures
  byte2 r.handle ++ byte4 r.token ++ byte1 r.cls ++ flag1 r.bay.isSome ++ bay1 r.bay ++ byte1 r.tier.code
    ++ tick3 r.start ++ byte2 r.length ++ tick3 r.holdBegin ++ tick3 r.endTick ++ tick3 r.intervalEnd ++ byte4 r.order
    ++ byte1 r.state.code ++ flag1 r.arrived ++ flag1 r.overstay ++ flag1 r.interrupted ++ byte1 r.reseats
    ++ optTick k.heldAt ++ optTick k.arrivedAt ++ optTick k.seatedAt ++ optTick k.startedAt ++ optTick k.endedAt
    ++ optTick k.vacatedAt ++ opt 2 r.energy ++ byte1 r.sessions ++ byte2 position ++ opt 2 waiting

def linkBytes (l : Link) : List Byte :=
  byte1 l.state.code ++ byte1 l.tx ++ byte1 l.rx ++ byte1 (errorCode l.lastError) ++ flag1 l.overrun

/-- The fields of a reply, in the order the owning rule lists them (R182). The 2 bytes each of BOOK_CLEAR's count and of
QUERY_PART's part code, book capacity and number of live records are the model's (DESIGN CHOICE, notes/assumptions/41). -/
def ReplyBody.bytes : ReplyBody → List Byte
  | .none => []
  | .book h n t hb st b => byte2 h ++ byte2 n ++ byte1 t.code ++ tick3 hb ++ byte1 st ++ byte1 b
  | .amend st n e hb rs b => tick3 st ++ byte2 n ++ tick3 e ++ tick3 hb ++ byte1 rs ++ byte1 b
  | .closed r => byte1 r.code
  | .entryMatch h st b => byte1 0 ++ byte2 h ++ byte1 st ++ byte1 b
  | .entryNoMatch => byte1 1
  | .assigned h b c n g => byte2 h ++ byte1 b ++ byte1 c ++ byte2 n ++ tick3 g
  | .queued p e => byte1 p ++ tick3 e
  | .policyRefusal r i => byte1 r ++ byte1 (indexCode i)
  | .position n => byte1 n
  | .bay b l => bayBytes b l
  | .reservation r p w => reservationBytes r p w
  | .bPort l n slots relay out =>
    linkBytes l ++ byte1 n ++ slots.flatMap (fun x => byte1 x.1 ++ byte1 x.2) ++ byte1 relay ++ flag1 out
  | .sPort l n slots r k g =>
    linkBytes l ++ byte1 n ++ slots.flatMap byte1 ++ byte1 r ++ byte1 k ++ flag1 g
  | .part ck ph st live ins w a m addr =>
    byte2 2460 ++ byte1 1 ++ byte1 Config.bays ++ byte2 Config.slots ++ tick3 ck ++ byte2 ph ++ flag1 st
      ++ byte2 live ++ byte1 ins ++ byte1 w ++ flag1 a ++ byte1 m ++ byte1 addr
  | .committed i => byte1 i.code
  | .setting c v => byte1 c ++ byte2 v
  | .clock c p d => tick3 c ++ byte2 p ++ tick3 (BitVec.ofInt 20 d)
  | .count n => byte2 n

/-! ### Segments (R197) -/

/-- An item of `n` body bytes is carried in ceiling(n / 26) segments, or in one when n is 0. -/
def segmentCount (n : Nat) : Nat := if n = 0 then 1 else (n + (Config.segment - 1)) / Config.segment

/-- The body bytes of segment `i`. -/
def segmentBytes (body : List Byte) (i : Nat) : List Byte := (body.drop (i * Config.segment)).take Config.segment

/-- The segment byte: bit 6 marks the last segment, bits 3..0 give the index, and a notice's bit 7 is the gap flag. -/
def segmentByte (gap last : Bool) (i : Nat) : Nat := (if gap then 128 else 0) + (if last then 64 else 0) + i % 16

def Reply.segments (r : Reply) : Nat := segmentCount r.body.bytes.length

def Notice.segments (n : Notice) : Nat := segmentCount n.body.bytes.length

/-- The frame of a reply's segment (R182, spec 11.5). -/
def Reply.frame (r : Reply) (source i : Nat) : Frame where
  priority := 3
  source := source
  kind := Kind.reply
  dest := r.dest
  payload := byte2 r.tag ++ byte1 r.kind ++ byte1 r.result.code
    ++ byte1 (segmentByte false (i + 1 == r.segments) i) ++ segmentBytes r.body.bytes i

/-- The frame of a notice's segment (R183, R184, spec 11.5). -/
def Notice.frame (n : Notice) (source i : Nat) : Frame where
  priority := n.body.priority
  source := source
  kind := Kind.notice
  dest := 255
  payload := byte1 n.body.code ++ byte1 (segmentByte n.gap (i + 1 == n.segments) i) ++ tick3 n.clock
    ++ segmentBytes n.body.bytes i

end Sys2Proof.Machine
end

