-- ==== Sys2Proof/Machine/Ops.lean ====
section
/-! DEFINITION. The named operations over the state that every block shares: reading and writing a bay record, a class
entry and a reservation record; owed marks and slot aborts (R13 to R15, R170, R171); notices and replies (R182, R184);
the bay timer (R31, R32, R36); the lamp (R11, R12). A block has no exception entry. -/

namespace Sys2Proof.Machine

/-! ### Reading and writing records -/

/-- The record of bay `b`; outside 0..127 there is none, and a blank one is read. -/
def State.bay (s : State) (b : Nat) : Bay := s.bays[b]?.getD Bay.blank

def State.setBay (s : State) (b : Nat) (x : Bay) : State := { s with bays := s.bays.setIfInBounds b x }

def State.modBay (s : State) (b : Nat) (f : Bay → Bay) : State := s.setBay b (f (s.bay b))

/-- The bay numbers, ascending. -/
def bayNumbers : List Nat := List.range Config.bays

/-- The class entry of class `c`, or none when it is invalid; class 0 has no entry (R5). -/
def State.cls (s : State) (c : Nat) : Option ClassEntry :=
  match c with
  | 0 => none
  | c + 1 => (s.classes[c]?).getD none

/-- What an absent class entry reads as. No loaded bay and no live record names an invalid class. -/
def ClassEntry.absent : ClassEntry := ⟨0, 0, 0, 0, 0, 0, 0, 0, 0, 0, 0, 0, 0⟩

def State.classOf (s : State) (c : Nat) : ClassEntry := (s.cls c).getD ClassEntry.absent

def Bay.loaded (x : Bay) : Bool := x.map.isSome
def Bay.cls (x : Bay) : Nat := (x.map.map MapEntry.cls).getD 0
def Bay.branch (x : Bay) : Nat := (x.map.map MapEntry.branch).getD 0
def Bay.post (x : Bay) : Nat := (x.map.map MapEntry.post).getD 0

/-- The class entry of a bay, as it stands (R7). -/
def State.bayClass (s : State) (b : Nat) : ClassEntry := s.classOf (s.bay b).cls

/-- The live record that a handle names; none when the handle is stale (R41). -/
def State.find (s : State) (h : Nat) : Option Reservation := s.book.find? (fun r => r.handle == h)

def State.modRec (s : State) (h : Nat) (f : Reservation → Reservation) : State :=
  { s with book := s.book.map fun r => if r.handle = h then f r else r }

/-- The record in the state SEATED, CHARGING or PARKED is in session (R44). -/
def ResState.inSession : ResState → Bool
  | .seated | .charging | .parked => true
  | .booked | .held | .waitingBay => false

/-- A record in HELD or in session holds a bay (R8). -/
def ResState.holdsBay : ResState → Bool
  | .held | .seated | .charging | .parked => true
  | .booked | .waitingBay => false

/-- A bay is in service in every state but OUT. -/
def BayState.inService (x : BayState) : Bool := x != .out

/-- A bay counts for capacity in every state but OUT and SUSPECT (R53). -/
def BayState.counts (x : BayState) : Bool := x != .out && x != .suspect

/-- A bay is energised in STARTING and in CHARGING. -/
def BayState.energised (x : BayState) : Bool := x == .starting || x == .charging

/-- The states OCCUPIED..PARKED. -/
def BayState.parkedRange : BayState → Bool
  | .occupied | .waitingPower | .starting | .charging | .parked => true
  | .out | .clearing | .free | .held | .suspect => false

/-- The loaded bay whose post address is `a`, if any (R2: at most one). -/
def State.bayOfPost (s : State) (a : Nat) : Option Nat :=
  bayNumbers.find? fun b => (s.bay b).loaded && (s.bay b).post == a

/-! ### Notices and replies -/

def SSlot.fill? : SSlot → Option SFill
  | .empty _ => none
  | .pending f => some f
  | .sending f => some f

/-- A slot holds a segment of the item. -/
def SPort.inSlot (p : SPort) (item : SItem) : Bool :=
  p.slots.toList.any fun x => (x.fill?.map SFill.item) == some item

/-- A notice is held in a slot, or counts as held: its segment 0 has been sent (R184, R197). -/
def SPort.held (p : SPort) (n : Notice) : Bool := n.begun || p.inSlot (.notice n.id)

/-- A queue less its first member of which `q` holds. -/
def eraseFirst {α : Type} (q : α → Bool) : List α → List α
  | [] => []
  | x :: xs => if q x then xs else x :: eraseFirst q xs

/-- Room is made for one more notice: a full queue discards its oldest notice not held in a slot; `none` when every one is
held, which cannot be while at most one notice is in a slot (R183, R184). -/
def SPort.makeRoom (p : SPort) : Option (List Notice) :=
  if p.notices.length < Config.notices then some p.notices
  else if p.notices.all p.held then none
  else some (eraseFirst (fun n => !p.held n) p.notices)

/-- A notice joins the tail of the notice queue; a full queue first discards the oldest notice not held in a slot and
sets gap pending (R184). -/
def SPort.queueNotice (p : SPort) (clock : Tick) (body : NoticeBody) : SPort :=
  { p with
    notices := match p.makeRoom with
      | some kept => kept ++ [⟨p.nextId, clock, false, 0, false, body⟩]
      | none => p.notices
    nextId := p.nextId + 1
    gapPending := p.gapPending || decide (Config.notices ≤ p.notices.length) }

/-- A notice is queued with the clock count at which its event was taken (R184). -/
def notify (body : NoticeBody) (s : State) : State := { s with sp := s.sp.queueNotice s.clock body }

/-- The reply of a request joins the tail of the reply queue (R182). -/
def addReply (dest tag kind : Nat) (result : Result) (body : ReplyBody) (s : State) : State :=
  { s with sp := { s.sp with
      replies := s.sp.replies ++ [⟨s.sp.nextId, dest, tag, kind, result, body, 0⟩]
      nextId := s.sp.nextId + 1 } }

/-! ### Owed marks and transmit slots -/

/-- The four families of owed marks (R13). -/
inductive Family where
  | power | access | lamp | query
  deriving DecidableEq, Repr

/-- A slot was filled from this family of this bay. -/
def FillOrigin.isFor (o : FillOrigin) (fam : Family) (b : Nat) : Bool :=
  match o, fam with
  | .power x _, .power => x == b
  | .access x _, .access => x == b
  | .lamp x, .lamp => x == b
  | .query x, .query => x == b
  | _, _ => false

def BSlot.fill? : BSlot → Option BFill
  | .empty _ => none
  | .pending f => some f
  | .sending f => some f

def State.bSlot (s : State) (i : Nat) : BSlot := s.bp.slots[i]?.getD (.empty .none)

def State.setBSlot (s : State) (i : Nat) (x : BSlot) : State :=
  { s with bp := { s.bp with slots := s.bp.slots.setIfInBounds i x } }

/-- A slot, PENDING or SENDING, holds a frame of this bay and family. -/
def State.slotHolds (s : State) (fam : Family) (b : Nat) : Bool :=
  s.bp.slots.toList.any fun x => match x.fill? with | some f => f.origin.isFor fam b | none => false

/-- The merge of an older POWER mark with a newer one (R14). -/
def mergePower (older newer : PowerMark) : PowerMark :=
  match older, newer with
  | _, .deenergise r => .deenergise r
  | _, .energise => .energise
  | .energise, .setCeiling => .energise
  | .setCeiling, .setCeiling => .setCeiling
  | .deenergise _, .setCeiling => .energise

/-- A slot's frame returns to owed (R170): POWER merges with a newer mark already set, ACCESS yields to a newer one,
LAMP and QUERY are set; a relay frame has kept its place in the relay queue (R175). -/
def returnToOwed (o : FillOrigin) (s : State) : State :=
  match o with
  | .power b m => s.modBay b fun x =>
      { x with power := some (match x.power with | none => m | some n => mergePower m n) }
  | .access b r => s.modBay b fun x => { x with access := some (x.access.getD r) }
  | .lamp b => s.modBay b fun x => { x with lamp := true }
  | .query b => s.modBay b fun x => { x with query := true }
  | .relay => s

/-- A slot is emptied with an outcome and its frame returned to owed. -/
def emptySlot (i : Nat) (f : BFill) (o : SlotOutcome) (s : State) : State :=
  returnToOwed f.origin (s.setBSlot i (.empty o))

/-- The slot numbers of the B-port. -/
def bSlotNumbers : List Nat := List.range Config.bSlots

/-- The bay table sets a mark while slot `i` may hold this bay and family (R171): a PENDING frame is aborted; a SENDING
one goes on, and is out of date should it return (R170). -/
def supersedeSlot (fam : Family) (b : Nat) (s : State) (i : Nat) : State :=
  match s.bSlot i with
  | .pending f => if f.origin.isFor fam b then emptySlot i f .aborted s else s
  | .sending f => if f.origin.isFor fam b then s.setBSlot i (.sending { f with remarked := true }) else s
  | .empty _ => s

/-- Every slot of this bay and family meets a newly set mark (R171). -/
def supersede (fam : Family) (b : Nat) (s : State) : State := bSlotNumbers.foldl (supersedeSlot fam b) s

/-- POWER is owed (R14, R171). -/
def owePower (b : Nat) (m : PowerMark) (s : State) : State :=
  (supersede .power b s).modBay b fun x =>
    { x with power := some (match x.power with | none => m | some o => mergePower o m) }

/-- ACCESS is owed: the newer reason replaces an older one (R15, R171). -/
def oweAccess (b : Nat) (r : AccessReason) (s : State) : State :=
  (supersede .access b s).modBay b fun x => { x with access := some r }

/-- LAMP is owed (R12, R171). -/
def oweLamp (b : Nat) (s : State) : State :=
  (supersede .lamp b s).modBay b fun x => { x with lamp := true }

/-- QUERY is owed (R15, R171). -/
def oweQuery (b : Nat) (s : State) : State :=
  (supersede .query b s).modBay b fun x => { x with query := true }

/-! ### The lamp -/

/-- The lamp mode of a bay (R11). -/
def lampOf (book : List Reservation) (x : Bay) : Lamp :=
  let holder := x.holder.bind fun h => book.find? (fun r => r.handle == h)
  match x.state with
  | .out | .clearing => .dark
  | .free => .free
  | .held => if (holder.map Reservation.arrived).getD false then .guide else .reserved
  | .occupied | .waitingPower | .starting | .charging | .parked =>
    if x.occupant == some .foreign || (holder.map Reservation.overstay).getD false then .attention else .inUse
  | .suspect => .fault

def State.lampMode (s : State) (b : Nat) : Lamp := lampOf s.book (s.bay b)

def State.lamps (s : State) : List Lamp := s.bays.toList.map (lampOf s.book)

/-- LAMP is owed for every bay whose mode differs from its mode in `old`, the modes of bay `b` and after (R12). -/
def oweLampChanges : Nat → List Lamp → List Lamp → State → State
  | b, o :: old, n :: new, s => oweLampChanges (b + 1) old new (if n ≠ o then oweLamp b s else s)
  | _, _, _, s => s

/-- An event: when all its effects are finished the lamp modes are worked out anew (R11, R12). -/
def event (f : State → State) (s : State) : State :=
  oweLampChanges 0 s.lamps (f s).lamps (f s)

/-! ### The bay timer -/

/-- SETTLE, GRACE and PLUG_WAIT wait on the post, and freeze (R35). -/
def Purpose.freezes : Purpose → Bool
  | .settle | .grace | .plugWait => true
  | .inrush | .windowEnd | .overstay => false

/-- The B-port is OFF or RECOVERING. -/
def State.portDown (s : State) : Bool := s.bp.link.state == .off || s.bp.link.state == .recovering

/-- The port sends: it is ACTIVE or CAUTION. -/
def PortState.sends (p : PortState) : Bool := p == .active || p == .caution

/-- A timer running with a deadline at or before now: diff(deadline, now) is at most 0 (R30). Exactly half the clock away it
is due, the model's reading (DESIGN CHOICE, notes/assumptions/44). -/
def Timer.due (t : Timer) (now : Tick) : Bool :=
  match t with
  | .running d _ => diff d now ≤ 0
  | _ => false

def setTimer (b : Nat) (t : Timer) (s : State) : State := s.modBay b fun x => { x with timer := t }

/-- A purpose is armed at a deadline. While the B-port is OFF or RECOVERING a purpose that freezes is armed frozen with
the full duration, unless it is already due (R36). A deadline at or before now has its expiry taken at once, after the
event (R32); exactly half the clock away it is read as in `Timer.due` (DESIGN CHOICE, notes/assumptions/44). -/
def armTimer (b : Nat) (p : Purpose) (deadline : Tick) (s : State) : State :=
  let left := diff deadline s.clock
  if p.freezes && s.portDown && decide (1 ≤ left) then setTimer b (.frozen left.toNat p) s
  else
    let s := setTimer b (.running deadline p) s
    if left ≤ 0 then { s with work := { s.work with due := s.work.due ++ [b] } } else s

/-- The timer is dropped, running or frozen (R32, R36). -/
def dropTimer (b : Nat) (s : State) : State := setTimer b .none s

/-- A rescan of the start queues is called for (R136); it follows the event's immediate expiries. -/
def callRescan (s : State) : State := { s with work := { s.work with rescan := true } }

/-- A bay has become FREE; the release service runs for it once the event is finished (R88). -/
def callRelease (b : Nat) (s : State) : State := { s with work := { s.work with freed := s.work.freed ++ [b] } }

end Sys2Proof.Machine
end

