-- ==== Sys2Proof/Machine/Book.lean ====
section
/-! DEFINITION. The reservation book: order and slots (R41 to R43), closing (R45), the fit computation (R53 to R55), free
runs and selection (R70, R83), placing, waiting and reseating (R82, R85, R86), and hold begin (R84). -/

namespace Sys2Proof.Machine

/-! ### Slots and order -/

/-- The slot number of a handle (R41). -/
def slotOf (h : Nat) : Nat := h % Config.slots

/-- The lowest-numbered free slot (R41); none when all 512 are occupied. -/
def State.freeSlot (s : State) : Option Nat :=
  (List.range Config.slots).find? fun i => !s.book.any fun r => slotOf r.handle == i

/-- All 512 slots are occupied. -/
def State.bookFull (s : State) : Bool := s.freeSlot.isNone

def State.genOf (s : State) (slot : Nat) : Nat := (s.gens[slot]?).getD 0

/-- The handle a new record takes in a slot: the slot's generation times 512 plus the slot number (R41). -/
def State.handleFor (s : State) (slot : Nat) : Nat := s.genOf slot * Config.slots + slot

/-- PRIORITY, then STANDARD, then WALKUP (R42, R43). -/
def Tier.rank : Tier → Nat
  | .priority => 0 | .standard => 1 | .walkup => 2

/-- Book order (R42): hold-begin by diff, then tier, then booking order. `insertBy` says what a cycle does. -/
def bookBefore (a b : Reservation) : Bool :=
  let d := diff a.holdBegin b.holdBegin
  d < 0 || (d == 0 && (a.tier.rank < b.tier.rank || (a.tier.rank == b.tier.rank && a.order < b.order)))

/-- Waiting-bay list order (R43): tier, then start by diff, then booking order. -/
def waitBefore (a b : Reservation) : Bool :=
  let d := diff a.start b.start
  a.tier.rank < b.tier.rank
    || (a.tier.rank == b.tier.rank && (d < 0 || (d == 0 && a.order < b.order)))

/-- An element takes its place in a list ordered by `before`: ahead of the first one it comes before. Where a long stay makes
the keys of R42 order the book in a cycle, that is the model's choice (DESIGN CHOICE, notes/assumptions/59). -/
def insertBy {α : Type} (before : α → α → Bool) (x : α) : List α → List α
  | [] => [x]
  | y :: ys => if before x y then x :: y :: ys else y :: insertBy before x ys

def insertRecord (r : Reservation) (s : State) : State := { s with book := insertBy bookBefore r s.book }

/-- The record comes ahead of the waiting record that a handle names (R43). -/
def State.waitsBefore (s : State) (r : Reservation) (h : Nat) : Bool :=
  match s.find h with
  | some q => waitBefore r q
  | none => false

/-- A handle takes its place in the waiting-bay list: ahead of the first one its record comes before (R43). -/
def State.waitInsert (s : State) (r : Reservation) : List Nat → List Nat
  | [] => [r.handle]
  | h :: hs => if s.waitsBefore r h then r.handle :: h :: hs else h :: s.waitInsert r hs

/-- The waiting-bay list takes a record at its place (R43). -/
def joinWaiting (r : Reservation) (s : State) : State := { s with waiting := s.waitInsert r s.waiting }

def leaveWaiting (h : Nat) (s : State) : State := { s with waiting := s.waiting.filter (· != h) }

/-- Position in a list, counted from 1. -/
def positionOf {α : Type} (q : α → Bool) (l : List α) : Option Nat := (l.findIdx? q).map (· + 1)

/-! ### Closing (R45, R46) -/

/-- The dwell of a COMPLETED record (R39). -/
def dwellOf (k : Captures) : Nat :=
  match k.vacatedAt, k.seatedAt with
  | some v, some t => (diff v t).toNat
  | _, _ => 0

def closedInfo (r : Reservation) (reason : CloseReason) : ClosedInfo where
  handle := r.handle
  token := r.token
  cls := r.cls
  tier := r.tier
  reason := reason
  bay := if r.state.holdsBay then r.bay else none
  captures := r.captures
  energy := r.energy
  sessions := r.sessions
  interrupted := r.interrupted
  dwell := if reason = .completed then dwellOf r.captures else 0

/-- A record leaves the book: the waiting-bay list loses it, its slot's generation goes up by one from 127 to 0, and
CLOSED is queued unless the close is BOOK_CLEAR's (R45, R63). The bay has been released first. -/
def closeRecord (h : Nat) (reason : CloseReason) (s : State) : State :=
  match s.find h with
  | none => s
  | some r =>
    let slot := slotOf h
    let s := { s with
      book := s.book.filter (fun q => q.handle != h)
      waiting := s.waiting.filter (· != h)
      gens := s.gens.setIfInBounds slot ((s.genOf slot + 1) % Config.generations) }
    if reason = .cleared then s else notify (.closed (closedInfo r reason)) s

/-! ### The fit computation -/

/-- The number of loaded bays of a class that count for capacity (R53). -/
def State.capacity (s : State) (c : Nat) : Nat :=
  (s.bays.toList.filter fun x => x.loaded && x.cls == c && x.state.counts).length

/-- K for a request of a tier (R53). -/
def State.capacityFor (s : State) (c : Nat) (t : Tier) : Nat :=
  match t with
  | .standard => s.capacity c - (s.classOf c).walkupReserve
  | .priority | .walkup => s.capacity c

/-- The bay-bound test (R54): the new interval meets no interval bound to the bay and not its seated holder's. -/
def State.bayFits (s : State) (b : Nat) (leave : Option Nat) (lo hi : Tick) : Bool :=
  s.book.all fun r =>
    some r.handle == leave ||
    !(((r.state == .booked || r.state == .held) && r.bay == some b)
        || (r.state.inSession && (s.bay b).holder == some r.handle))
    || !intersects lo hi r.holdBegin r.intervalEnd

/-- The counted records of a class (R55), leaving out the record being amended. -/
def State.counted (s : State) (c : Nat) (leave : Option Nat) : List Reservation :=
  s.book.filter fun r => r.cls == c && some r.handle != leave

/-- How many of the records' intervals contain a tick. -/
def countAt (rs : List Reservation) (t : Tick) : Nat :=
  (rs.filter fun r => inInterval t r.holdBegin r.intervalEnd).length

/-- The greatest count over the span from `lo` (or now, when that is later) to `hi` (R55): the count at its beginning
and at every endpoint inside it. -/
def peak (rs : List Reservation) (now lo hi : Tick) : Nat :=
  let from' := if atOrAfter lo now then lo else now
  if atOrAfter from' hi then 0
  else
    let inside t := isAfter t from' && isBefore t hi
    let ends := (rs.map Reservation.holdBegin ++ rs.map Reservation.intervalEnd).filter inside
    ((from' :: ends).map (countAt rs)).foldl max 0

/-- The class count (R55): the peak plus one is at most K. -/
def State.classFits (s : State) (c : Nat) (t : Tier) (leave : Option Nat) (lo hi : Tick) : Bool :=
  peak (s.counted c leave) s.clock lo hi + 1 ≤ s.capacityFor c t

/-- Another live record of the token has an interval that intersects (R47, R51, R57). -/
def State.duplicate (s : State) (token : Nat) (leave : Option Nat) (lo hi : Tick) : Bool :=
  s.book.any fun r =>
    r.token == token && some r.handle != leave && intersects lo hi r.holdBegin r.intervalEnd

/-! ### Free run and selection -/

/-- The free run of a bay before saturation (R70), with one record left out: `none` when no bound record limits it. -/
def State.freeRun? (s : State) (b : Nat) (leave : Option Nat) : Option Nat :=
  let bound := s.book.filter fun r =>
    (r.state == .booked || r.state == .held) && r.bay == some b && some r.handle != leave
  if bound.any fun r => inInterval s.clock r.holdBegin r.intervalEnd then some 0
  else
    ((bound.filter fun r => isAfter r.holdBegin s.clock).map fun r => (diff r.holdBegin s.clock).toNat).min?

/-- A free run as a number, saturated at 65,535 (R70). -/
def saturate (run : Option Nat) : Nat := min 65535 (run.getD 65535)

/-- A free run reaches a need or a least run; compared before saturation (R70). -/
def runCovers (run : Option Nat) (need : Int) : Bool :=
  match run with
  | none => true
  | some n => need ≤ (n : Int)

/-- The branch floor sum (R130). -/
def State.floorSum (s : State) (br : Nat) : Nat :=
  ((s.energised.filter fun e => e.branch == br).map EnergisedEntry.floor).sum

/-- A record's need (R83). -/
def State.need (s : State) (r : Reservation) : Int := diff r.intervalEnd s.clock

/-- The best of a list by a strict order, the earliest of equals. -/
def best {α : Type} (better : α → α → Bool) : List α → Option α
  | [] => none
  | x :: xs => some (xs.foldl (fun b y => if better y b then y else b) x)

/-- The candidates of selection (R83). -/
def State.candidates (s : State) (r : Reservation) (leaving : Option Nat) : List Nat :=
  bayNumbers.filter fun b =>
    (s.bay b).loaded && (s.bay b).cls == r.cls && (s.bay b).state == .free && some b != leaving
      && runCovers (s.freeRun? b (some r.handle)) (s.need r)

/-- Selection (R83): the smallest free run, then the lower floor sum of the branch, then the lower bay number. -/
def State.select (s : State) (r : Reservation) (leaving : Option Nat) : Option Nat :=
  let run b := saturate (s.freeRun? b (some r.handle))
  let sum b := s.floorSum (s.bay b).branch
  best (fun x y => run x < run y || (run x == run y && sum x < sum y)) (s.candidates r leaving)

/-! ### Placing, waiting, reseating -/

/-- The grace deadline: start plus the class grace, as it stands. -/
def State.graceOf (s : State) (r : Reservation) : Tick := plusTicks r.start (s.classOf r.cls).grace

/-- The two notices of a placing (R82 step 6). -/
inductive PlaceNotice where
  | holdBegun | reseated
  deriving DecidableEq, Repr

/-- A record is placed on a bay (R82). A seated_at that the record still carries is of a seating on another bay, and it
loses it; a record that was never seated has none to lose (notes/assumptions/25). -/
def place (h b : Nat) (notice : PlaceNotice) (s : State) : State :=
  match s.find h with
  | none => s
  | some r =>
    let grace := s.graceOf r
    let s := s.modRec h fun q => { q with
      bay := some b
      state := .held
      captures := { q.captures with
        heldAt := some (q.captures.heldAt.getD s.clock)
        seatedAt := none } }
    let s := leaveWaiting h s
    let s := s.modBay b fun x => { x with holder := some h, state := .held, occupant := none }
    let s := armTimer b .grace grace s
    notify (match notice with
      | .holdBegun => .holdBegun h r.token r.cls b r.start grace r.arrived
      | .reseated => .reseated h r.token r.cls b r.start grace r.arrived) s

/-- A record goes WAITING_BAY, and is closed UNSERVED at once when its start plus grace has been reached (R85). -/
def goWaiting (h : Nat) (cause : WaitCause) (s : State) : State :=
  match s.find h with
  | none => s
  | some r =>
    let s := s.modRec h fun q => { q with state := .waitingBay, bay := none }
    let s := joinWaiting { r with state := .waitingBay, bay := none } s
    let s := notify (.holdWaiting h r.token r.cls r.start r.reseats cause) s
    if atOrAfter s.clock (s.graceOf r) then closeRecord h .unserved s else s

/-- A record is placed on the bay selection gives, or goes WAITING_BAY. -/
def placeBySelection (h : Nat) (leaving : Option Nat) (notice : PlaceNotice) (s : State) : State :=
  match s.find h with
  | none => s
  | some r =>
    match s.select r leaving with
    | some b => place h b notice s
    | none => goWaiting h .noBay s

/-- A reseat of a record off bay `leaving` (R86). The caller has taken the record off the bay (R87). -/
def reseat (h leaving : Nat) (s : State) : State :=
  match s.find h with
  | none => s
  | some r =>
    if r.reseats ≥ Config.reseats then goWaiting h .reseatLimit s
    else placeBySelection h (some leaving) .reseated (s.modRec h fun q => { q with reseats := q.reseats + 1 })

/-- A BOOKED record's hold begins (R84). -/
def beginHold (h : Nat) (s : State) : State :=
  match s.find h with
  | none => s
  | some r =>
    match r.bay with
    | some b => if (s.bay b).state = .free then place h b .holdBegun s else reseat h b s
    | none => placeBySelection h none .holdBegun s

/-- A HELD bay is released: the GRACE timer is dropped, the holder becomes none and the bay goes FREE (R60, R63, R96,
R108). The release service follows the event. -/
def freeBay (b : Nat) (s : State) : State :=
  s.modBay b fun x => { x with timer := .none, holder := none, occupant := none, state := .free }

/-- Every BOOKED record bound to a bay has its binding changed to CLASS (R4, R18). -/
def rebind (b : Nat) (s : State) : State :=
  { s with book := s.book.map fun r =>
      if r.state = .booked ∧ r.bay = some b then { r with bay := none } else r }

/-! ### Walk-up records and the release service -/

/-- A class mask names a class (spec 11.1: bit c set for class c). -/
def maskHas (mask c : Nat) : Bool := mask.testBit c

/-- The bay's free run meets the two conditions of a walk-up (R112, R116, R119, R120). -/
def State.walkupRun (s : State) (b : Nat) : Bool :=
  let run := s.freeRun? b none
  runCovers run (s.bayClass b).walkupMin && runCovers run ((s.bayClass b).turnover + 6)

/-- The record of a walk-up on a bay (R113), in the lowest free slot; the state it is made in is the caller's. -/
def State.walkRecord (s : State) (slot token b stay : Nat) (state : ResState) : Reservation :=
  let c := s.bayClass b
  let length := min stay (saturate (s.freeRun? b none) - c.turnover)
  let fin := plusTicks s.clock length
  { handle := s.handleFor slot
    token := token
    cls := (s.bay b).cls
    bay := some b
    tier := .walkup
    start := s.clock
    length := length
    holdBegin := minusTicks s.clock c.lead
    endTick := fin
    intervalEnd := plusTicks fin c.turnover
    order := s.nextOrder
    state := state
    arrived := true
    overstay := false
    interrupted := false
    reseats := 0
    captures := { Captures.none with arrivedAt := some s.clock }
    energy := none
    sessions := 0 }

/-- A record joins the book and takes the next booking order. -/
def addRecord (r : Reservation) (s : State) : State :=
  { insertRecord r s with nextOrder := s.nextOrder + 1 }

/-- A walk-up is given a bay to hold: its record is made, WALKUP_ASSIGNED is queued and the record is placed (R114,
R116). -/
def assignWalkup (slot token b stay : Nat) (cause : AssignCause) (enq : Option Tick) (s : State) : State :=
  let r := s.walkRecord slot token b stay .booked
  let s := addRecord r s
  let s := notify (.walkupAssigned r.handle token r.cls b r.start r.length cause enq) s
  place r.handle b .holdBegun s

/-- The walk-up queue is offered a bay (R116). -/
def offerWalkups (b : Nat) (s : State) : State :=
  match s.freeSlot with
  | none => s
  | some slot =>
    match s.walkups.find? (fun w => maskHas w.mask (s.bay b).cls && s.walkupRun b) with
    | none => s
    | some w =>
      let s := { s with walkups := eraseFirst (fun x => x.token == w.token) s.walkups }
      assignWalkup slot w.token b w.stay .queue (some w.enqueuedAt) s

/-- The first waiting record that a bay can serve (R88 step 1). -/
def State.waitingFor (s : State) (b : Nat) : Option Nat :=
  s.waiting.find? fun h =>
    match s.find h with
    | some r => r.cls == (s.bay b).cls && runCovers (s.freeRun? b none) (s.need r)
    | none => false

/-- The release service of a bay that has become FREE, if it is still FREE (R88). -/
def releaseService (b : Nat) (s : State) : State :=
  if (s.bay b).state = .free then
    match s.waitingFor b with
    | some h => place h b .holdBegun s
    | none => offerWalkups b s
  else s

end Sys2Proof.Machine
end

