-- ==== Sys2Proof/Machine/Flags.lean ====
section
/-! DEFINITION. The compare of the policy unit (R73) and its conditions (R74). Field values and constants are
0..65,535. -/

namespace Sys2Proof.Machine

/-- A 16-bit value read as signed (R73). -/
def signed16 (n : Nat) : Int := if n < 32768 then n else (n : Int) - 65536

/-- D: the 16-bit difference. -/
def cmpD (f k : Nat) : Nat := (f + (65536 - k)) % 65536

/-- Z: F equals K. -/
def cmpZ (f k : Nat) : Bool := cmpD f k == 0

/-- S: the difference reads as negative. -/
def cmpS (f k : Nat) : Bool := 32768 ≤ cmpD f k

/-- C: the subtraction borrowed. -/
def cmpC (f k : Nat) : Bool := f < k

/-- V: the signed difference did not fit. -/
def cmpV (f k : Nat) : Bool :=
  let d := signed16 f - signed16 k
  d < -32768 || 32767 < d

/-- T: the bitwise AND of F and K. -/
def cmpT (f k : Nat) : Nat := f &&& k

/-- Whether a condition holds of a field value F and a constant K (R74). -/
def Condition.holds (c : Condition) (f k : Nat) : Bool :=
  match c with
  | .eq => cmpZ f k
  | .ne => !cmpZ f k
  | .ult => cmpC f k
  | .uge => !cmpC f k
  | .ugt => !cmpC f k && !cmpZ f k
  | .ule => cmpC f k || cmpZ f k
  | .lt => cmpS f k != cmpV f k
  | .ge => cmpS f k == cmpV f k
  | .gt => !cmpZ f k && (cmpS f k == cmpV f k)
  | .le => cmpZ f k || (cmpS f k != cmpV f k)
  | .any => cmpT f k != 0
  | .none => cmpT f k == 0
  | .always => true

/-- A signed count as LEAD presents it: saturated to -32,768..32,767 and encoded in 16 bits (R71). -/
def encodeLead (d : Int) : Nat :=
  let v := max (-32768) (min 32767 d)
  if 0 ≤ v then v.toNat else (v + 65536).toNat

end Sys2Proof.Machine
end

