-- ==== Sys2Proof/Machine/Policy.lean ====
section
/-! DEFINITION. The admission policy: the fields of a request (R69 to R72), the walk of the table (R75 to R80) and the
result it hands back (R81). -/

namespace Sys2Proof.Machine

/-- The nine field values that stay fixed for an evaluation (R69). -/
structure PolicyRequest where
  cls : Nat
  classMask : Nat
  lead : Nat
  source : Nat
  liveCount : Nat
  tokenLo : Nat
  tokenHi : Nat
  freeRun : Nat
  dayPhase : Nat
  deriving DecidableEq, Repr

/-- The result of an evaluation (R81): the verdict (a refusal carries its reason), the deciding index or default, the
length as last clamped and the tier as last set. -/
structure PolicyResult where
  refusal : Option Nat
  index : Option Nat
  length : Nat
  tier : Nat
  deriving DecidableEq, Repr

/-- The value an entry's field names (R69); LENGTH and TIER are read as the walk has left them. -/
def PolicyRequest.value (q : PolicyRequest) (length tier : Nat) : PolicyField → Nat
  | .cls => q.cls
  | .classMask => q.classMask
  | .length => length
  | .lead => q.lead
  | .tier => tier
  | .source => q.source
  | .liveCount => q.liveCount
  | .tokenLo => q.tokenLo
  | .tokenHi => q.tokenHi
  | .freeRun => q.freeRun
  | .dayPhase => q.dayPhase

/-- policy_default's verdict at the end of the table (R80): a refusal has reason 0. -/
def PolicyDefault.refusal : PolicyDefault → Option Nat
  | .accept => none
  | .refuse => some 0

/-- The walk of the table from index `i` on, with `skip` entries still to be passed over (R75 to R80). SET_TIER acts
for a BOOK, source 1, alone (R78). -/
def walkPolicy (q : PolicyRequest) (dflt : PolicyDefault) :
    (i skip length tier : Nat) → List (Option PolicyEntry) → PolicyResult
  | _, _, length, tier, [] => ⟨dflt.refusal, none, length, tier⟩
  | i, skip + 1, length, tier, _ :: es => walkPolicy q dflt (i + 1) skip length tier es
  | i, 0, length, tier, none :: es => walkPolicy q dflt (i + 1) 0 length tier es
  | i, 0, length, tier, some e :: es =>
    if e.condition.holds (q.value length tier e.field) e.constant then
      match e.action with
      | .accept => ⟨none, some i, length, tier⟩
      | .refuse => ⟨some e.argument, some i, length, tier⟩
      | .clampLength => walkPolicy q dflt (i + 1) 0 (min length e.argument) tier es
      | .setTier => walkPolicy q dflt (i + 1) 0 length (if q.source = 1 then e.argument else tier) es
      | .skip => walkPolicy q dflt (i + 1) e.argument length tier es
    else walkPolicy q dflt (i + 1) 0 length tier es

/-- An evaluation (R68): the table and policy_default are read as they stand. -/
def State.evaluate (s : State) (q : PolicyRequest) (length tier : Nat) : PolicyResult :=
  walkPolicy q s.settings.policyDefault 0 0 length tier s.policy.toList

/-- The number of live records of a token (R69). -/
def State.liveCount (s : State) (token : Nat) : Nat := (s.book.filter fun r => r.token == token).length

/-- The fields that come from the source and the token (R69). -/
def State.policyRequest (s : State) (source token cls mask lead freeRun : Nat) : PolicyRequest where
  cls := cls
  classMask := mask
  lead := lead
  source := source
  liveCount := s.liveCount token
  tokenLo := token % 65536
  tokenHi := token / 65536
  freeRun := freeRun
  dayPhase := s.phase

/-- SOURCE 1: a BOOK whose length has passed the max_length clamp. -/
def State.evaluateBook (s : State) (token cls : Nat) (bay : Option Nat) (start : Tick) (length tier : Nat) :
    PolicyResult :=
  let run := match bay with
    | some b => saturate (s.freeRun? b none)
    | none => 65535
  s.evaluate (s.policyRequest 1 token cls (2 ^ cls) (encodeLead (diff start s.clock)) run) length tier

/-- The classes a mask names, ascending (spec 11.1); class 0 is bit 0. -/
def maskClasses (mask : Nat) : List Nat := (List.range 16).filter (maskHas mask)

/-- The longest free run among the candidate bays of a WALKUP, and 0 when there is none (R70). -/
def State.walkupFreeRun (s : State) (mask : Nat) : Nat :=
  ((bayNumbers.filter fun b =>
      (s.bay b).state == .free && maskHas mask (s.bay b).cls
        && runCovers (s.freeRun? b none) (s.bayClass b).walkupMin).map
    fun b => saturate (s.freeRun? b none)).foldl max 0

/-- SOURCE 2: a WALKUP (R69). -/
def State.evaluateWalkup (s : State) (token mask : Nat) : PolicyResult :=
  s.evaluate (s.policyRequest 2 token ((maskClasses mask).headD 0) mask 0 (s.walkupFreeRun mask))
    s.settings.walkupStay 2

/-- SOURCE 3: a drive-in plug on bay `b` (R69). -/
def State.evaluateDriveIn (s : State) (token b : Nat) : PolicyResult :=
  let c := (s.bay b).cls
  s.evaluate (s.policyRequest 3 token c (2 ^ c) 0 (saturate (s.freeRun? b none))) s.settings.walkupStay 2

end Sys2Proof.Machine
end

