-- ==== Sys2Proof/Machine/Share.lean ====
section
/-! DEFINITION. The share unit: the period in force (R125), the start queues (R132 to R135), the recompute with its
pauses and two stages (R141 to R144), the rescan (R136 to R139) and the change of budgets (R129). -/

namespace Sys2Proof.Machine

/-! ### The schedule -/

/-- The periods of a copy (R124). -/
def periodsOf (copy : Vector (Option Period) Config.periods) : List Period := copy.toList.filterMap id

/-- The period in force (R125): the greatest start phase at or below the day phase, or else the greatest of all. -/
def periodAt (copy : Vector (Option Period) Config.periods) (phase : Nat) : Option Period :=
  let all := periodsOf copy
  let passed := all.filter fun p => p.start ≤ phase
  best (fun a b => b.start < a.start) (if passed.isEmpty then all else passed)

/-- A day phase is a start phase of the active copy (R128). -/
def State.isBoundary (s : State) (phase : Nat) : Bool := (periodsOf s.active).any fun p => p.start == phase

/-- L in force; 0 when no period is in force (R125). -/
def State.levelBudget (s : State) : Nat := (s.inForce.map Period.level).getD 0

/-- B_b in force; 0 when no period is in force (R125). -/
def State.branchBudget (s : State) (br : Nat) : Nat := (s.inForce.bind fun p => p.branch[br]?).getD 0

/-- The branch numbers, ascending. -/
def branchNumbers : List Nat := List.range Config.branches

/-! ### The energised set -/

/-- Start order (R130): the earlier start tick, then the lower bay number. -/
def startBefore (a b : EnergisedEntry) : Bool :=
  let d := diff a.start b.start
  d < 0 || (d == 0 && a.bay < b.bay)

/-- The level floor sum (R130). -/
def State.levelFloorSum (s : State) : Nat := (s.energised.map EnergisedEntry.floor).sum

/-- The entries of a branch, in start order. -/
def State.entriesOf (s : State) (br : Nat) : List EnergisedEntry := s.energised.filter fun e => e.branch == br

/-- A bay leaves the energised set: ceiling 0, and DEENERGISE owed with the reason (R130). -/
def leaveSet (b : Nat) (reason : PowerReason) (s : State) : State :=
  let s := { s with energised := s.energised.filter fun e => e.bay != b }
  owePower b (.deenergise reason) (s.modBay b fun x => { x with ceiling := 0 })

/-- The record that is the holder of a bay. -/
def State.holderRec (s : State) (b : Nat) : Option Reservation := (s.bay b).holder.bind s.find

/-! ### The start queues -/

def State.queue (s : State) (br : Nat) : List QueueEntry := s.queues[br]?.getD []

def setQueue (br : Nat) (q : List QueueEntry) (s : State) : State :=
  { s with queues := s.queues.setIfInBounds br q }

/-- Queue order (R132): paused entries first by start tick and bay number; unpaused ones after them as they joined. -/
def queueBefore (a b : QueueEntry) : Bool :=
  match a.paused, b.paused with
  | some x, some y => let d := diff x y; d < 0 || (d == 0 && a.bay < b.bay)
  | some _, none => true
  | none, _ => false

/-- The bay's entry in its start queue. -/
def State.queueEntry (s : State) (b : Nat) : Option QueueEntry := (s.queue (s.bay b).branch).find? fun e => e.bay == b

/-- The entry of a bay leaves its queue; the entries behind it move up (R135). -/
def dropFromQueue (b : Nat) (s : State) : State :=
  let br := (s.bay b).branch
  setQueue br ((s.queue br).filter fun e => e.bay != b) s

/-- The bay's record goes to a state. -/
def setHolderState (b : Nat) (st : ResState) (s : State) : State :=
  match (s.bay b).holder with
  | some h => s.modRec h fun r => { r with state := st }
  | none => s

def setBayState (b : Nat) (st : BayState) (s : State) : State := s.modBay b fun x => { x with state := st }

/-- The energy that the end of a session gives its record: that of the bay's last reported status, if one is present
(R40, R100). -/
def State.sessionEnergy (s : State) (b : Nat) (r : Reservation) : Option Nat :=
  match (s.bay b).status with
  | some st => some st.energy
  | none => r.energy

/-- A paused session ends outside a start: ended_at, the interrupted flag and SESSION_END (R101, R103, R106, R134), with the
energy of the last reported status as at every other end (R40; DEDUCED, notes/assumptions/45). -/
def endPaused (b : Nat) (s : State) : State :=
  match s.holderRec b with
  | none => s
  | some r =>
    let energy := s.sessionEnergy b r
    notify (.sessionEnd r.handle b energy r.sessions)
      (s.modRec r.handle fun q => { q with
        energy := energy
        interrupted := true
        captures := { q.captures with endedAt := some s.clock } })

/-- A bay in WAITING_POWER leaves its queue without starting, and a paused session is ended with it (R101, R135). The
rescan follows the event. -/
def leaveQueue (b : Nat) (s : State) : State :=
  let paused := ((s.queueEntry b).bind QueueEntry.paused).isSome
  let s := callRescan (dropFromQueue b s)
  if paused then endPaused b s else s

/-- A bay with a verified plug joins its start queue as an unpaused entry, with WINDOW_END at its record's end; when the
queue is full it goes PARKED instead (R133, R134). -/
def joinQueue (b : Nat) (s : State) : State :=
  match s.holderRec b with
  | none => s
  | some r =>
    let br := (s.bay b).branch
    if Config.startQueue ≤ (s.queue br).length then
      let s := setBayState b .parked (setHolderState b .parked s)
      let s := if isBefore s.clock r.endTick then armTimer b .windowEnd r.endTick s
        else armTimer b .overstay (plusTicks r.endTick (s.bayClass b).overstay) s
      notify (.bayState b .parked .queueFull (some r.handle)) s
    else
      let s := setBayState b .waitingPower (setHolderState b .seated s)
      let s := setQueue br (s.queue br ++ [⟨b, none⟩]) s
      callRescan (armTimer b .windowEnd r.endTick s)

/-! ### Pauses (R141) -/

/-- The entry that a full queue displaces goes PARKED with its timer kept; a paused session ends with it (R134). -/
def displace (e : QueueEntry) (s : State) : State :=
  let s := dropFromQueue e.bay s
  let s := setBayState e.bay .parked (setHolderState e.bay .parked s)
  let s := if e.paused.isSome then endPaused e.bay s else s
  notify (.bayState e.bay .parked .queueFull (s.bay e.bay).holder) s

/-- A paused bay joins its queue at its place; the entry that then stands last of 33 is displaced (R132, R134). -/
def joinPaused (e : EnergisedEntry) (s : State) : State :=
  let s := setQueue e.branch (insertBy queueBefore ⟨e.bay, some e.start⟩ (s.queue e.branch)) s
  if Config.startQueue < (s.queue e.branch).length then
    match (s.queue e.branch).getLast? with
    | some last => displace last s
    | none => s
  else s

/-- SESSION_PAUSED of a bay with its holder's record (R141 step 5). The position is fixed once all pauses are taken. -/
def notifyPaused (cause : PauseCause) (e : EnergisedEntry) (r : Option Reservation) (s : State) : State :=
  match r with
  | some r => notify (.sessionPaused r.handle e.bay e.branch cause none) s
  | none => s

/-- One pause (R141 steps 1 to 5). An energised bay has a holder; the timer of one that had none would be dropped. -/
def pauseBay (cause : PauseCause) (e : EnergisedEntry) (s : State) : State :=
  let r := s.holderRec e.bay
  let s := leaveSet e.bay .paused s
  let s := setBayState e.bay .waitingPower (setHolderState e.bay .seated s)
  let s := setTimer e.bay (match r with | some r => .running r.endTick .windowEnd | none => .none) s
  notifyPaused cause e r (joinPaused e s)

/-- Pauses of one branch, while its floor sum is above its budget; the fuel is the size of the set. -/
def pauseBranch (br : Nat) : Nat → State → State
  | 0, s => s
  | fuel + 1, s =>
    if s.branchBudget br < s.floorSum br then
      match (s.entriesOf br).getLast? with
      | some e => pauseBranch br fuel (pauseBay .branchBudget e s)
      | none => s
    else s

/-- Pauses of the level, while its floor sum is above L. -/
def pauseLevel : Nat → State → State
  | 0, s => s
  | fuel + 1, s =>
    if s.levelBudget < s.levelFloorSum then
      match s.energised.getLast? with
      | some e => pauseLevel fuel (pauseBay .levelBudget e s)
      | none => s
    else s

/-- The position of a bay in its queue, counted from 1. -/
def State.queuePosition (s : State) (br b : Nat) : Option Nat := positionOf (fun e => e.bay == b) (s.queue br)

/-- SESSION_PAUSED carries the position as it stands once the recompute has taken all its pauses (R141 step 5): the
notices with an id at or above `first` are this recompute's. -/
def fixPosition (s : State) (first : Nat) (n : Notice) : Notice :=
  match n.body with
  | .sessionPaused h b br cause _ =>
    if first ≤ n.id then { n with body := .sessionPaused h b br cause (s.queuePosition br b) } else n
  | _ => n

def fixPositions (first : Nat) (s : State) : State :=
  { s with sp := { s.sp with notices := s.sp.notices.map (fixPosition s first) } }

/-! ### The two stages (R142, R143) -/

/-- The remainder is handed out one unit at a time in order; a member at its cap is skipped. Each member is its value
and its cap. -/
def handOut : Nat → List (Nat × Nat) → List Nat
  | _, [] => []
  | 0, x :: xs => x.1 :: handOut 0 xs
  | r + 1, x :: xs => if x.1 < x.2 then (x.1 + 1) :: handOut r xs else x.1 :: handOut (r + 1) xs

/-- The floor part of a member: the spare times its headroom over the total headroom, rounded down. -/
def floorPart (spare total : Nat) (x : Nat × Nat) : Nat := spare * (x.2 - x.1) / total

/-- Both stages divide a total among members, each its floor and its cap: everyone gets its cap when the caps fit, and
else its floor, its floor part of the spare, and its share of the remainder (R142, R143). -/
def divide (total : Nat) (xs : List (Nat × Nat)) : List Nat :=
  if (xs.map Prod.snd).sum ≤ total then xs.map Prod.snd
  else
    let spare := total - (xs.map Prod.fst).sum
    let head := (xs.map fun x => x.2 - x.1).sum
    let parts := xs.map (floorPart spare head)
    handOut (spare - parts.sum) (xs.map fun x => (x.1 + floorPart spare head x, x.2))

/-- D_b: the draws of a branch. -/
def State.drawSum (s : State) (br : Nat) : Nat := ((s.entriesOf br).map EnergisedEntry.draw).sum

/-- Stage 1: the grants of the eight branches, each between F_b and C_b, the smaller of B_b and D_b (R142). -/
def State.grants (s : State) : List Nat :=
  divide s.levelBudget (branchNumbers.map fun br => (s.floorSum br, min (s.branchBudget br) (s.drawSum br)))

/-- Stage 2: the ceilings of one branch's sessions, in start order, each with its bay (R143). -/
def State.branchCeilings (s : State) (br : Nat) : List (Nat × Nat) :=
  let es := s.entriesOf br
  (es.map EnergisedEntry.bay).zip (divide (s.grants.getD br 0) (es.map fun e => (e.floor, e.draw)))

/-- The ceilings of every energised bay. -/
def State.ceilings (s : State) : List (Nat × Nat) := branchNumbers.flatMap s.branchCeilings

/-- A worked-out ceiling is recorded, and SET_CEILING owed when it differs from the recorded one (R144). -/
def setCeiling (b c : Nat) (s : State) : State :=
  if (s.bay b).ceiling = c then s
  else owePower b .setCeiling (s.modBay b fun x => { x with ceiling := c })

def writeCeilings (cs : List (Nat × Nat)) (s : State) : State := cs.foldl (fun s x => setCeiling x.1 x.2 s) s

/-! ### The window end of a bay that is not energised (R103) -/

/-- WAITING_POWER, OCCUPIED after plug wait, or PARKED: the bay ends PARKED with OVERSTAY armed. -/
def closeIdleWindow (b : Nat) (s : State) : State :=
  match s.holderRec b with
  | none => s
  | some r =>
    let s := if (s.bay b).state = .waitingPower then leaveQueue b s else s
    let s := setHolderState b .parked s
    let s := s.modBay b fun x => { x with
      state := .parked
      occupant := if x.state = .occupied then some .holder else x.occupant }
    armTimer b .overstay (plusTicks r.endTick (s.bayClass b).overstay) s

/-- The window end of the bays this recompute paused whose end has passed, taken after the recompute (R141 step 3), one after
another in the order given. -/
def closePaused (bays : List Nat) (s : State) : State :=
  bays.foldl (fun s b =>
    match s.holderRec b with
    | some r => if isBefore s.clock r.endTick then s else closeIdleWindow b s
    | none => s) s

/-- The recompute (R141 to R144): pauses, stage 1, stage 2. The passed window ends of the bays it paused follow in start
order, which R141 leaves open (DESIGN CHOICE, notes/assumptions/55). -/
def recompute (s : State) : State :=
  let before := s.energised
  let first := s.sp.nextId
  let s := branchNumbers.foldl (fun s br => pauseBranch br s.energised.length s) s
  let s := pauseLevel s.energised.length s
  let s := fixPositions first s
  let s := writeCeilings s.ceilings s
  closePaused ((before.map EnergisedEntry.bay).filter fun b => !(s.energised.any fun e => e.bay == b)) s

/-! ### Admitting a start (R136 to R139) -/

/-- Bay `x`'s map entry names bay `y` (R3). -/
def State.names (s : State) (x y : Nat) : Bool :=
  match (s.bay x).map with
  | some m => m.left == some y || m.right == some y
  | none => false

/-- Two bays are neighbours when either names the other (R3). -/
def State.neighbours (s : State) (x y : Nat) : Bool := s.names x y || s.names y x

/-- The number of bays of a branch in STARTING. -/
def State.startingCount (s : State) (br : Nat) : Nat :=
  (bayNumbers.filter fun b => (s.bay b).state == .starting && (s.bay b).branch == br).length

/-- What the start conditions say of an entry (R136, R137). -/
inductive StartVerdict where
  | stop | pass | start
  deriving DecidableEq, Repr

def State.judgeStart (s : State) (br b : Nat) : StartVerdict :=
  let f := (s.bayClass b).floor
  if s.branchBudget br < s.floorSum br + f || s.levelBudget < s.levelFloorSum + f then .stop
  else if Config.startingPerBranch ≤ s.startingCount br
      || bayNumbers.any (fun y => (s.bay y).state == .starting && s.neighbours b y) then .pass
  else .start

/-- A bay leaves its queue and starts (R138), or resumes its paused session (R139). -/
def startBay (e : QueueEntry) (s : State) : State :=
  let b := e.bay
  let br := (s.bay b).branch
  let c := s.bayClass b
  let s := dropFromQueue b s
  let s := { s with energised := insertBy startBefore ⟨b, br, c.draw, c.floor, s.clock⟩ s.energised }
  let s := armTimer b .inrush (plusTicks s.clock c.inrush) (setBayState b .starting s)
  match s.holderRec b with
  | none => owePower b .energise (recompute s)
  | some r =>
    let resumed := e.paused.isSome
    let n := if resumed then r.sessions else min 255 (r.sessions + 1)
    let s := s.modRec r.handle fun q => { q with
      state := .charging
      sessions := n
      captures := { q.captures with
        startedAt := if resumed then q.captures.startedAt else some (q.captures.startedAt.getD s.clock) } }
    let s := owePower b .energise (recompute s)
    notify (.sessionStart r.handle r.token b br (s.bay b).ceiling n resumed) s

/-- The walk of one queue over its entries as they stood (R136). -/
def walkQueue (br : Nat) : List QueueEntry → State → State
  | [], s => s
  | e :: es, s =>
    if (s.queue br).any (fun q => q.bay == e.bay) then
      match s.judgeStart br e.bay with
      | .stop => s
      | .pass => walkQueue br es s
      | .start => walkQueue br es (startBay e s)
    else walkQueue br es s

/-- The rescan: the eight queues in ascending branch number; none while the B-port cannot send (R136). -/
def rescan (s : State) : State :=
  if s.bp.link.state.sends then branchNumbers.foldl (fun s br => walkQueue br (s.queue br) s) s else s

/-- A change of budgets (R129). -/
def changeBudgets (s : State) : State := rescan (recompute s)

/-- The period in force is worked out from a phase, and a different one brings a change of budgets (R125). -/
def workPeriod (s : State) : State :=
  let p := periodAt s.active s.phase
  if p.map Period.start = s.inForce.map Period.start then { s with inForce := p }
  else changeBudgets { s with inForce := p }

/-- The switch (R128). -/
def switchSchedule (cause : SwitchCause) (s : State) : State :=
  let p := periodAt s.staged s.phase
  let s := { s with active := s.staged, armed := false, switchDue := false, inForce := p }
  changeBudgets (notify (.scheduleSwitched cause (periodsOf s.active).length p) s)

end Sys2Proof.Machine
end

