-- ==== Sys2Proof/Machine/Seating.lean ====
section
/-! DEFINITION. What happens at a bay: the end of a session (R100), the SUSPECT entry (R154), the post events (R92, R93,
R101, R106, R152), the judgement of a plug (R94 to R98, R102, R119 to R122), the expiries (R99, R103, R104, R107, R108,
R140), and the finishing of an event with its immediate expiries, its rescan and its release service (R32, R88). -/

namespace Sys2Proof.Machine

/-! ### Sessions -/

/-- A running session ends: the bay leaves the energised set, the record goes PARKED with ended_at and the energy of
the last reported status, and SESSION_END is queued (R100 steps 1, 3 and 4; R17, R103, R106 and R154). When a check of a
status ends it, that is the report before the one checked (DEDUCED, notes/assumptions/50). -/
def stopSession (b : Nat) (reason : PowerReason) (interrupted : Bool) (s : State) : State :=
  let s := leaveSet b reason s
  match s.holderRec b with
  | none => s
  | some r =>
    let energy := s.sessionEnergy b r
    let s := s.modRec r.handle fun q => { q with
      state := .parked
      energy := energy
      interrupted := q.interrupted || interrupted
      captures := { q.captures with endedAt := some s.clock } }
    notify (.sessionEnd r.handle b energy r.sessions) s

/-- The share unit recomputes and rescans (R130). -/
def reshare (s : State) : State := rescan (recompute s)

/-- A session ends on an energised bay, which is then PARKED (R100 steps 1 to 5, without the timer). -/
def endSession (b : Nat) (reason : PowerReason) (s : State) : State :=
  reshare (setBayState b .parked (stopSession b reason false s))

/-- CHARGE_DONE or UNPLUGGED on an energised bay (R100). An energised bay has a holder; the timer of one that had none
would be dropped. -/
def chargeEnd (b : Nat) (s : State) : State :=
  let s := setBayState b .parked (stopSession b .sessionEnd false s)
  let s := match s.holderRec b with
    | some r => armTimer b .windowEnd r.endTick s
    | none => dropTimer b s
  reshare s

/-! ### SUSPECT entry (R154) -/

/-- The holder is taken off a bay: the bay's holder becomes none (R87). -/
def takeOff (b : Nat) (s : State) : State := s.modBay b fun x => { x with holder := none }

/-- SUSPECT entry: a HELD holder is reseated; a holder in session stays the holder and keeps its occupant. -/
def enterSuspect (b : Nat) (reason : BayReason) (s : State) : State :=
  let x := s.bay b
  let share := x.state == .waitingPower || x.state.energised
  let s := match x.state with
    | .waitingPower =>
      let paused := ((s.queueEntry b).bind QueueEntry.paused).isSome
      let s := setHolderState b .parked (dropFromQueue b s)
      if paused then endPaused b s else s
    | .starting | .charging => stopSession b .suspect true s
    | .held =>
      match x.holder with
      | some h => reseat h b (takeOff b s)
      | none => s
    | .out | .clearing | .free | .occupied | .parked | .suspect => s
  let s := s.modBay b fun x => { x with
    occupant := if x.holder.isSome then x.occupant else none
    timer := .none
    state := .suspect
    silenceDue := false }
  let s := notify (.bayState b .suspect reason (s.bay b).holder) s
  if share then reshare s else s

/-! ### Occupancy (R92) -/

/-- A vehicle comes into a FREE, HELD or CLEARING bay, with PLUG_WAIT armed. -/
def occupy (b : Nat) (s : State) : State :=
  let s := s.modBay b fun x => { x with state := .occupied, occupant := some .unknown }
  armTimer b .plugWait (plusTicks s.clock (s.bayClass b).plugWait) s

/-- OCCUPIED by the bay's state. -/
def occupiedEvent (b : Nat) (s : State) : State :=
  match (s.bay b).state with
  | .held =>
    let s := occupy b s
    match s.holderRec b with
    | none => s
    | some r =>
      let s := s.modRec r.handle fun q => { q with
        state := .seated
        captures := { q.captures with seatedAt := some s.clock } }
      notify (.seated r.handle r.token b) s
  | .free | .clearing => (occupy b s).modBay b fun x => { x with holder := none }
  | .out | .occupied | .waitingPower | .starting | .charging | .parked | .suspect => s

/-! ### The judgement of a plug on an OCCUPIED bay -/

/-- Case 1: the holder's token (R94). -/
def plugHolder (b : Nat) (r : Reservation) (s : State) : State :=
  let s := s.modBay b fun x => { x with occupant := some .holder }
  if isBefore s.clock r.endTick then joinQueue b s
  else
    let s := setBayState b .parked (setHolderState b .parked s)
    armTimer b .overstay (plusTicks r.endTick (s.bayClass b).overstay) (oweAccess b .windowPassed s)

/-- The record may be adopted by a plug of its token on bay `x`, but for the free run (R95). -/
def State.adoptable (s : State) (t x : Nat) (r : Reservation) : Bool :=
  r.token == t && r.cls == (s.bay x).cls && (s.bay x).holder != some r.handle
    && match r.state with
       | .held => r.bay != some x
       | .waitingBay => true
       | .booked => atOrAfter s.clock (minusTicks r.holdBegin (s.classOf r.cls).early)
       | .seated | .charging | .parked => false

/-- The adoptable record: the one whose interval contains now, or else the earliest (R95). -/
def State.adopting (s : State) (t x : Nat) : Option Reservation :=
  let rs := s.book.filter (s.adoptable t x)
  match rs.find? fun r => inInterval s.clock r.holdBegin r.intervalEnd with
  | some r => some r
  | none => best (fun a b => diff a.holdBegin b.holdBegin < 0) rs

/-- A record is seated on bay `x` as its holder, with SEATED queued (R96 step 3, R119, R121). -/
def seatOn (h token x : Nat) (s : State) : State :=
  let s := s.modRec h fun r => { r with
    bay := some x
    state := .seated
    captures := { r.captures with seatedAt := some s.clock } }
  notify (.seated h token x) (s.modBay x fun y => { y with holder := some h })

/-- The verified vehicle's bay goes WAITING_POWER and joins its start queue (R96 step 4, R119 step 5, R121 step 4). -/
def seatPower (x : Nat) (s : State) : State :=
  joinQueue x (s.modBay x fun y => { y with occupant := some .holder })

/-- The holder of bay `x`, if any, is taken off it and reseated (R86, R96 step 2, R119 step 2). -/
def reseatHolder (x : Nat) (s : State) : State :=
  match (s.bay x).holder with
  | some h => reseat h x (takeOff x s)
  | none => s

/-- The adopting record's claim on its old place ends (R96 step 1). LAMP is owed on its old bay as the step says, also when
the displaced holder retakes that bay in the same event and its mode ends unchanged (R11, R12; DEDUCED,
notes/assumptions/54). -/
def dropClaim (r : Reservation) (s : State) : State :=
  let s := s.modRec r.handle fun q => { q with bay := none }
  match r.state, r.bay with
  | .held, some y => callRelease y (oweLamp y (freeBay y s))
  | .waitingBay, _ => leaveWaiting r.handle s
  | _, _ => s

/-- Adoption (R96). The release service of the old bay follows the event. -/
def adopt (r : Reservation) (x : Nat) (s : State) : State :=
  seatPower x (seatOn r.handle r.token x (reseatHolder x (dropClaim r s)))

/-- The walk-up record of a plug is made SEATED on the bay, with WALKUP_ASSIGNED and SEATED queued (R119, R121). -/
def seatWalkup (token x stay : Nat) (cause : AssignCause) (enq : Option Tick) (s : State) : State :=
  match s.freeSlot with
  | none => s
  | some slot =>
    let r := s.walkRecord slot token x stay .seated
    let s := addRecord r s
    let s := notify (.walkupAssigned r.handle token r.cls x r.start r.length cause enq) s
    seatPower x (seatOn r.handle token x s)

def dropWalkup (token : Nat) (s : State) : State :=
  { s with walkups := eraseFirst (fun w => w.token == token) s.walkups }

/-- Case 3: the walk-up queue's entry for `t`, when it is served at this bay (R97, R119). -/
def State.plugEntry (s : State) (t x : Nat) : Option WalkEntry :=
  match s.walkups.find? fun w => w.token == t with
  | some w => if maskHas w.mask (s.bay x).cls && s.walkupRun x && s.freeSlot.isSome then some w else none
  | none => none

/-- Case 4: a foreign vehicle on a bay with a holder (R98). -/
def foreignPlug (x t h : Nat) (s : State) : State :=
  let s := oweAccess x .foreign (s.modBay x fun y => { y with occupant := some .foreign })
  let s := notify (.foreignOccupant x t (some h) .heldBay) s
  let s := s.modBay x fun y => { y with
    timer := match y.timer with
      | .running _ .windowEnd => .none
      | t => t }
  reseat h x (takeOff x s)

/-- A refused drive-in is locked out (R122). -/
def lockOut (x t : Nat) (cause : ForeignCause) (s : State) : State :=
  let s := s.modBay x fun y => { y with occupant := some .foreign }
  let s := oweAccess x (if cause = .notReady then .notReady else .foreign) s
  notify (.foreignOccupant x t none cause) s

/-- The six steps that judge a drive-in (R120): the cause of the first that refuses, or the applied stay. -/
def State.judgeDriveIn (s : State) (x t : Nat) : Except ForeignCause Nat :=
  if !s.clockSet then .error .notReady
  else
    let v := s.evaluateDriveIn t x
    match v.refusal with
    | some reason => .error (.policy reason v.index)
    | none =>
      if t = 0 then .error .noToken
      else if s.liveCount t ≠ 0 then .error .liveRecord
      else if s.bookFull then .error .bookFull
      else if !s.walkupRun x then .error .shortRun
      else .ok v.length

/-- Case 5: a drive-in (R98, R120 to R122). -/
def driveIn (x t : Nat) (s : State) : State :=
  match s.judgeDriveIn x t with
  | .error cause => lockOut x t cause s
  | .ok stay =>
    let enq := (s.walkups.find? fun w => w.token == t).map WalkEntry.enqueuedAt
    seatWalkup t x stay .driveIn enq (dropWalkup t s)

/-- The five cases of a plug on an OCCUPIED bay, the first that applies (R94). The WALKUP_ASSIGNED of case 3 carries
the entry's enqueued_at, as every other notice of a served entry does (notes/assumptions/27). -/
def plugOccupied (x t : Nat) (s : State) : State :=
  let holder := s.holderRec x
  match holder.filter fun r => r.token == t with
  | some r => plugHolder x r s
  | none =>
    match (s.adopting t x).filter fun r => runCovers (s.freeRun? x (some r.handle)) (s.need r) with
    | some r => adopt r x s
    | none =>
      match s.plugEntry t x with
      | some w => seatWalkup t x w.stay .plug (some w.enqueuedAt) (reseatHolder x (dropWalkup t s))
      | none =>
        match holder with
        | some r => foreignPlug x t r.handle s
        | none => driveIn x t s

/-- A plug on a PARKED bay (R102). -/
def plugParked (x t : Nat) (s : State) : State :=
  match s.holderRec x with
  | none => s
  | some r =>
    if r.token = t then
      if isBefore s.clock r.endTick then joinQueue x s else oweAccess x .windowPassed s
    else oweAccess x .foreign s

/-- PLUGGED by the bay's state (R93). -/
def pluggedEvent (x t : Nat) (s : State) : State :=
  match (s.bay x).state with
  | .free | .held | .clearing => plugOccupied x t (occupiedEvent x s)
  | .occupied => plugOccupied x t s
  | .parked => plugParked x t s
  | .waitingPower | .starting | .charging | .suspect | .out => s

/-! ### The other post events -/

/-- UNPLUGGED by the bay's state (R100, R101). -/
def unpluggedEvent (b : Nat) (s : State) : State :=
  match (s.bay b).state with
  | .starting | .charging => chargeEnd b s
  | .waitingPower => setBayState b .parked (setHolderState b .parked (leaveQueue b s))
  | .out | .clearing | .free | .held | .occupied | .parked | .suspect => s

/-- CHARGE_DONE by the bay's state (R100, R101). -/
def chargeDoneEvent (b : Nat) (s : State) : State :=
  if (s.bay b).state.energised then chargeEnd b s else s

/-- VACATED by the bay's state (R106). -/
def vacatedEvent (b : Nat) (s : State) : State :=
  let st := (s.bay b).state
  if st.parkedRange || st == .suspect then
    let s := if st.energised then endSession b .vacated s
      else if st = .waitingPower then leaveQueue b s else s
    let s := dropTimer b s
    let s := match (s.bay b).holder with
      | some h =>
        closeRecord h .completed
          (s.modRec h fun r => { r with captures := { r.captures with vacatedAt := some s.clock } })
      | none => s
    let s := s.modBay b fun x => { x with occupant := none, holder := none }
    if st = .suspect then s
    else
      let s := oweQuery b (s.modBay b fun x => { x with status := none, statusTick := none, state := .clearing })
      armTimer b .settle (plusTicks s.clock (s.bayClass b).settle) s
  else s

/-- POST_FAULT (R152). -/
def postFaultEvent (b : Nat) (s : State) : State :=
  match (s.bay b).state with
  | .out | .suspect => s
  | .clearing | .free | .held | .occupied | .waitingPower | .starting | .charging | .parked =>
    enterSuspect b .post s

/-! ### The expiries -/

/-- SETTLE on a CLEARING bay (R107). -/
def settleExpiry (b : Nat) (s : State) : State :=
  match (s.bay b).status with
  | none => oweQuery b (armTimer b .settle (plusTicks s.clock (s.bayClass b).settle) s)
  | some st =>
    if st.occupied || st.plugged then
      let s := (occupy b s).modBay b fun x => { x with holder := none }
      if st.plugged then plugOccupied b st.token s else s
    else callRelease b (freeBay b s)

/-- GRACE on a HELD bay: a no-show (R108). -/
def graceExpiry (b : Nat) (s : State) : State :=
  match (s.bay b).holder with
  | some h => callRelease b (freeBay b (closeRecord h .noShow s))
  | none => s

/-- PLUG_WAIT on an OCCUPIED bay (R99). -/
def plugWaitExpiry (b : Nat) (s : State) : State :=
  let x := s.bay b
  let s := notify (.plugWaitExpired b x.occupant x.holder) s
  match s.holderRec b with
  | some r => armTimer b .windowEnd r.endTick s
  | none => s

/-- INRUSH on a STARTING bay (R140). -/
def inrushExpiry (b : Nat) (s : State) : State :=
  let s := setBayState b .charging s
  let s := match s.holderRec b with
    | some r => armTimer b .windowEnd r.endTick s
    | none => s
  callRescan s

/-- WINDOW_END (R103). -/
def windowEndExpiry (b : Nat) (s : State) : State :=
  if (s.bay b).state.energised then
    let s := endSession b .windowEnd s
    match s.holderRec b with
    | some r => armTimer b .overstay (plusTicks r.endTick (s.bayClass b).overstay) s
    | none => s
  else closeIdleWindow b s

/-- OVERSTAY on a PARKED bay (R104). -/
def overstayExpiry (b : Nat) (s : State) : State :=
  match s.holderRec b with
  | none => s
  | some r =>
    if r.overstay then s
    else notify (.overstay r.handle r.token b r.endTick) (s.modRec r.handle fun q => { q with overstay := true })

/-- A timer expires: its purpose is read, it becomes none, and the rule of the purpose is taken (R33). -/
def expire (b : Nat) (s : State) : State :=
  match (s.bay b).timer with
  | .running _ p =>
    let s := dropTimer b s
    match p with
    | .settle => settleExpiry b s
    | .grace => graceExpiry b s
    | .plugWait => plugWaitExpiry b s
    | .inrush => inrushExpiry b s
    | .windowEnd => windowEndExpiry b s
    | .overstay => overstayExpiry b s
  | .none | .frozen _ _ => s

/-! ### Finishing an event -/

/-- What is still to be brought about for an event: first the expiries it made due, then the rescan it called for, then
the release service of each bay it freed, each an event of its own; `none` when the event is finished. -/
def finishStep (s : State) : Option State :=
  match s.work.due with
  | b :: bs =>
    let s := { s with work := { s.work with due := bs } }
    some (if (s.bay b).timer.due s.clock then event (expire b) s else s)
  | [] =>
    if s.work.rescan then some (event rescan { s with work := { s.work with rescan := false } })
    else
      match s.work.freed with
      | b :: bs => some (event (releaseService b) { s with work := { s.work with freed := bs } })
      | [] => none

/-- No event brings about more than this many further steps: every one of them moves a bay or a record on. -/
abbrev finishFuel : Nat := 4096

def finish : Nat → State → State
  | 0, s => { s with work := Work.none }
  | fuel + 1, s =>
    match finishStep s with
    | some s' => finish fuel s'
    | none => s

/-- An event is taken whole. -/
def takeEvent (f : State → State) (s : State) : State := finish finishFuel (event f s)

end Sys2Proof.Machine
end

