-- ==== Sys2Proof/Machine/Ports.lean ====
section
/-! DEFINITION. The two ports: the link engine's counts and states (R161, R162), entry to OFF, CAUTION and ACTIVE (R163,
R164, R172, R178), PORT_CLEAR (R166, R191), the transmit slots (R167 to R170, R183, R197) and the receive queues (R173,
R179). -/

namespace Sys2Proof.Machine

/-! ### The link engine -/

def State.link (s : State) : Port → Link
  | .b => s.bp.link
  | .s => s.sp.link

def setLink (p : Port) (l : Link) (s : State) : State :=
  match p with
  | .b => { s with bp := { s.bp with link := l } }
  | .s => { s with sp := { s.sp with link := l } }

/-- PORT_STATE (R165). -/
def notifyPort (p : Port) (cause : PortCause) (s : State) : State :=
  let l := s.link p
  notify (.portState p l.state l.tx l.rx l.lastError l.overrun cause) s

/-- The transmit count after a transmit error (R161). -/
def txUp (n : Nat) : Nat := min 255 (n + 8)

/-- The receive count after a receive error (R161). -/
def rxUp (n : Nat) : Nat := min 255 (n + 1)

/-- The receive count after a frame received without error (R161). -/
def rxDown (n : Nat) : Nat := if 120 ≤ n then 100 else n - 1

/-- Either count has risen from below 64 to 64 or more (R165). -/
def crosses (a b : Link) : Bool := (a.tx < 64 && 64 ≤ b.tx) || (a.rx < 64 && 64 ≤ b.rx)

/-- New counts are taken: WARNING is queued on a crossing (R165). -/
def setCounts (p : Port) (l : Link) (s : State) : State :=
  let s' := setLink p l s
  if crosses (s.link p) l then notifyPort p .warning s' else s'

/-! ### S-port items (R183, R197) -/

def setReplies (rs : List Reply) (s : State) : State := { s with sp := { s.sp with replies := rs } }

def setNotices (ns : List Notice) (s : State) : State := { s with sp := { s.sp with notices := ns } }

def Reply.restart (id : Nat) (r : Reply) : Reply := if r.id = id then { r with sent := 0 } else r

def Notice.restart (id : Nat) (n : Notice) : Notice := if n.id = id then { n with sent := 0 } else n

/-- The item starts again from segment 0 at its next fill (R197). -/
def restartItem (i : SItem) (s : State) : State :=
  match i with
  | .reply id => setReplies (s.sp.replies.map (Reply.restart id)) s
  | .notice id => setNotices (s.sp.notices.map (Notice.restart id)) s

def State.sSlot (s : State) (i : Nat) : SSlot := s.sp.slots[i]?.getD (.empty .none)

def State.setSSlot (s : State) (i : Nat) (x : SSlot) : State :=
  { s with sp := { s.sp with slots := s.sp.slots.setIfInBounds i x } }

/-- The slot numbers of the S-port. -/
def sSlotNumbers : List Nat := List.range Config.sSlots

/-- A slot is emptied and its reply or notice stays where it stood in its queue (R183). -/
def emptySSlot (i : Nat) (f : SFill) (o : SlotOutcome) (s : State) : State :=
  restartItem f.item (s.setSSlot i (.empty o))

/-- Every filled S-port slot is emptied. -/
def emptySSlots (o : SlotOutcome) (s : State) : State :=
  sSlotNumbers.foldl (fun s i =>
    match (s.sSlot i).fill? with
    | some f => emptySSlot i f o s
    | none => s) s

def SItem.isNotice : SItem → Bool
  | .reply _ => false
  | .notice _ => true

/-- Entry of the S-port to CAUTION: a PENDING notice slot is emptied (R183). -/
def dropPendingNotice (s : State) : State :=
  sSlotNumbers.foldl (fun s i =>
    match s.sSlot i with
    | .pending f => if f.item.isNotice then emptySSlot i f .aborted s else s
    | _ => s) s

/-! ### B-port slots -/

/-- Every filled B-port slot is emptied with an outcome and its frame returned to owed (R163, R166). -/
def emptyBSlots (o : SlotOutcome) (s : State) : State :=
  bSlotNumbers.foldl (fun s i =>
    match (s.bSlot i).fill? with
    | some f => emptySlot i f o s
    | none => s) s

/-- Entry of the B-port to CAUTION: every PENDING slot of priority 4..7 is aborted (R172). -/
def abortLow (s : State) : State :=
  bSlotNumbers.foldl (fun s i =>
    match s.bSlot i with
    | .pending f => if 4 ≤ f.frame.priority then emptySlot i f .aborted s else s
    | _ => s) s

/-! ### Changes of port state -/

/-- The timer as entry of the B-port to OFF leaves it (R35). -/
def Timer.freeze (now : Tick) : Timer → Timer
  | .running d p => if p.freezes && decide (0 < diff d now) then .frozen (diff d now).toNat p else .running d p
  | t => t

def freezeTimers (s : State) : State :=
  { s with bays := s.bays.map fun x => { x with timer := x.timer.freeze s.clock } }

/-- The port goes to a state, PORT_STATE queued with cause STATE (R165). -/
def goState (p : Port) (st : PortState) (s : State) : State :=
  notifyPort p .state (setLink p { s.link p with state := st, gaps := 0 } s)

/-- The B-port enters OFF (R163). -/
def enterOffB (s : State) : State :=
  let s := emptyBSlots .failed s
  let s := { s with bp := { s.bp with outage := true } }
  let s := goState .b .off (freezeTimers s)
  if s.settings.bRecovery = .auto then goState .b .recovering s else s

/-- A full reset (R195). The commands still waiting outside the part are none of its state. -/
def fullReset (s : State) : State := { State.reset with pending := s.pending }

/-- The S-port enters OFF; a pending PART_RESET takes effect (R178, R194). The slots are emptied before PORT_STATE is queued
(DESIGN CHOICE, notes/assumptions/61). -/
def enterOffS (s : State) : State :=
  let s := goState .s .off (emptySSlots .failed s)
  if s.sp.resetPending then fullReset s else goState .s .recovering s

def enterOff : Port → State → State
  | .b, s => enterOffB s
  | .s, s => enterOffS s

/-- The port enters CAUTION (R172, R183). The S-port's PENDING notice slot is emptied before PORT_STATE is queued (DESIGN
CHOICE, notes/assumptions/61). -/
def enterCaution (p : Port) (s : State) : State :=
  let s := setLink p { s.link p with state := .caution } s
  let s := match p with
    | .b => abortLow s
    | .s => dropPendingNotice s
  notifyPort p .state s

/-- Counts that keep a port in CAUTION (R162). -/
def Link.cautious (l : Link) : Bool := 120 ≤ l.tx || 120 ≤ l.rx

/-- The counts are judged against the port state (R162). -/
def judgeLink (p : Port) (s : State) : State :=
  let l := s.link p
  match l.state with
  | .active =>
    if 224 ≤ l.tx then enterOff p s
    else if l.cautious then enterCaution p s
    else s
  | .caution =>
    if 224 ≤ l.tx then enterOff p s
    else if l.cautious then s
    else goState p .active s
  | .joining | .off | .recovering => s

/-- A receive error (R160, R161). -/
def receiveErrorAt (p : Port) (e : RxError) (s : State) : State :=
  let l := s.link p
  judgeLink p (setCounts p { l with rx := rxUp l.rx, lastError := some (rxErrorKind e) } s)

/-- A frame received without error (R161). -/
def receivedGood (p : Port) (s : State) : State :=
  let l := s.link p
  judgeLink p (setCounts p { l with rx := rxDown l.rx } s)

/-! ### The return to ACTIVE (R164) -/

/-- After an outage QUERY is owed for every bay in service and its reconcile mark is set. -/
def oweQueries (s : State) : State :=
  bayNumbers.foldl (fun s b =>
    if (s.bay b).state.inService then (oweQuery b s).modBay b fun x => { x with reconcile := true } else s) s

/-- The B-port enters ACTIVE from JOINING or RECOVERING (R164). -/
def activeReturnB (s : State) : State :=
  let s := goState .b .active s
  let s := if s.bp.outage then oweQueries { s with bp := { s.bp with outage := false } } else s
  callRescan s

def activeReturn : Port → State → State
  | .b, s => activeReturnB s
  | .s, s => goState .s .active s

/-! ### PORT_CLEAR -/

/-- Both counts 0, last error none, overrun cleared; the port goes to a state. -/
def clearLink (p : Port) (st : PortState) (s : State) : State :=
  notifyPort p .state (setLink p ⟨st, 0, 0, none, 0, false⟩ s)

/-- PORT_CLEAR of the B-port (R166). -/
def clearB (s : State) : State :=
  let st := s.bp.link.state
  let s := emptyBSlots .aborted s
  let s := { s with bp := { s.bp with rxq := [], outage := true } }
  clearLink .b
    (if (st = .off ∨ st = .recovering) ∧ s.settings.bRecovery = .manual then .recovering else .joining) s

/-- PORT_CLEAR of the S-port (R191). -/
def clearS (s : State) : State :=
  let s := emptySSlots .aborted s
  clearLink .s .joining { s with sp := { s.sp with rxq := [] } }

def clearPort : Port → State → State
  | .b, s => clearB s
  | .s, s => clearS s

/-! ### Filling B-port slots (R168, R175) -/

/-- The mark of a family is set on a bay. -/
def Bay.owes (x : Bay) : Family → Bool
  | .power => x.power.isSome
  | .access => x.access.isSome
  | .lamp => x.lamp
  | .query => x.query

/-- POWER and ACCESS are served in CAUTION too. -/
def Family.urgent : Family → Bool
  | .power | .access => true
  | .lamp | .query => false

/-- A bay's mark is eligible (R168). -/
def State.eligible (s : State) (fam : Family) (b : Nat) : Bool :=
  (s.bay b).loaded && (s.bay b).owes fam && !s.slotHolds fam b
    && (s.bp.link.state == .active || (s.bp.link.state == .caution && fam.urgent))

def BPort.pointer (p : BPort) : Family → Nat
  | .power => p.powerPtr
  | .access => p.accessPtr
  | .lamp => p.lampPtr
  | .query => p.queryPtr

def BPort.setPointer (p : BPort) (fam : Family) (b : Nat) : BPort :=
  match fam with
  | .power => { p with powerPtr := b }
  | .access => { p with accessPtr := b }
  | .lamp => { p with lampPtr := b }
  | .query => { p with queryPtr := b }

/-- The bays in the order a family is served: from the one after its pointer, wrapping from 127 to 0. -/
def serviceOrder (ptr : Nat) : List Nat := bayNumbers.map fun i => (ptr + 1 + i) % Config.bays

/-- The next bay of a family with an eligible mark. -/
def State.nextBay (s : State) (fam : Family) : Option Nat :=
  (serviceOrder (s.bp.pointer fam)).find? (s.eligible fam)

/-- The families in the order they are served. -/
def families : List Family := [.power, .access, .lamp, .query]

/-- What a fill takes: a bay's mark of a family, or the head of the relay queue. -/
inductive Candidate where
  | mark (fam : Family) (bay : Nat)
  | relay (r : RelayFrame)
  deriving DecidableEq, Repr

/-- The relay queue's head may be filled (R175). -/
def State.relayCandidate (s : State) : Option RelayFrame :=
  if s.bp.link.state = .active
      ∧ ¬ (s.bp.slots.toList.any fun x => (x.fill?.map BFill.origin) == some .relay) = true then
    s.bp.relay.head?
  else none

/-- The next candidate (R168). -/
def State.nextFill (s : State) : Option Candidate :=
  match families.findSome? fun fam => (s.nextBay fam).map (Candidate.mark fam) with
  | some c => some c
  | none => s.relayCandidate.map .relay

/-- The frame of a POWER mark (R168). -/
def powerFrame (post ceiling : Nat) : PowerMark → Frame
  | .deenergise r => ⟨0, 0, Kind.deenergise, post, byte1 r.code⟩
  | .energise => ⟨2, 0, Kind.energise, post, byte1 ceiling⟩
  | .setCeiling => ⟨2, 0, Kind.setCeiling, post, byte1 ceiling⟩

/-- A family's mark of a bay as a slot's frame and origin, built from the bay as it stands. -/
def State.buildMark (s : State) (fam : Family) (b : Nat) : Option (Frame × FillOrigin) :=
  let x := s.bay b
  match fam with
  | .power => x.power.map fun m => (powerFrame x.post x.ceiling m, .power b m)
  | .access => x.access.map fun r => (⟨1, 0, Kind.lockout, x.post, byte1 r.code⟩, .access b r)
  | .lamp => some (⟨6, 0, Kind.setLamp, x.post, byte1 (s.lampMode b).code⟩, .lamp b)
  | .query => some (⟨5, 0, Kind.queryPost, x.post, []⟩, .query b)

def clearMark (fam : Family) (x : Bay) : Bay :=
  match fam with
  | .power => { x with power := none }
  | .access => { x with access := none }
  | .lamp => { x with lamp := false }
  | .query => { x with query := false }

/-- A slot becomes PENDING with a frame and the next fill number. -/
def fillSlot (i : Nat) (fr : Frame) (o : FillOrigin) (s : State) : State :=
  let s := s.setBSlot i (.pending ⟨fr, o, s.bp.nextFill, false⟩)
  { s with bp := { s.bp with nextFill := s.bp.nextFill + 1 } }

/-- The lowest-numbered EMPTY slot (notes/assumptions/14). -/
def State.emptyBSlot (s : State) : Option Nat :=
  bSlotNumbers.find? fun i => match s.bSlot i with | .empty _ => true | _ => false

/-- One candidate is taken into a slot (R168, R175). -/
def fillCandidate (i : Nat) (c : Candidate) (s : State) : State :=
  match c with
  | .mark fam b =>
    match s.buildMark fam b with
    | some (fr, o) =>
      let s := { s with bp := s.bp.setPointer fam b }
      fillSlot i fr o (s.modBay b (clearMark fam))
    | none => s
  | .relay r => fillSlot i ⟨7, 0, r.kind, r.dest, r.payload⟩ .relay s

/-! ### Filling S-port slots (R183, R197) -/

def State.emptySSlotNumber (s : State) : Option Nat :=
  sSlotNumbers.find? fun i => match s.sSlot i with | .empty _ => true | _ => false

/-- The oldest reply that has no segment in a slot. -/
def State.nextReply (s : State) : Option Reply := s.sp.replies.find? fun r => !s.sp.inSlot (.reply r.id)

/-- The head notice, when the port is ACTIVE and no slot holds a notice. -/
def State.nextNotice (s : State) : Option Notice :=
  if s.sp.link.state = .active ∧ ¬ (s.sp.slots.toList.any fun x => (x.fill?.map fun f => f.item.isNotice) == some true)
      = true then
    s.sp.notices.head?
  else none

def fillSSlot (i : Nat) (item : SItem) (fr : Frame) (s : State) : State :=
  let s := s.setSSlot i (.pending ⟨item, fr, s.sp.nextFill⟩)
  { s with sp := { s.sp with nextFill := s.sp.nextFill + 1 } }

/-- A notice put into a slot from its segment 0 takes the gap flag when gap pending is set; a later segment carries the
flag the item has (R184, R197). -/
def flagGap (pending : Bool) (n : Notice) : Notice :=
  if n.sent = 0 then { n with gap := n.gap || pending } else n

def replaceNotice (n m : Notice) : Notice := if m.id = n.id then n else m

/-- The head notice goes into slot `i`; gap pending is cleared when its segment 0 is filled (R184). -/
def fillNotice (i : Nat) (n : Notice) (s : State) : State :=
  let n' := flagGap s.sp.gapPending n
  let s := setNotices (s.sp.notices.map (replaceNotice n')) s
  let s := { s with sp := { s.sp with gapPending := if n.sent = 0 then false else s.sp.gapPending } }
  fillSSlot i (.notice n.id) (n'.frame s.settings.partAddress n.sent) s

/-- The next segment goes into slot `i`: of the oldest reply not in a slot, or else of the head notice (R183). -/
def fillSegment (i : Nat) (s : State) : State :=
  match s.nextReply with
  | some r => fillSSlot i (.reply r.id) (r.frame s.settings.partAddress r.sent) s
  | none =>
    match s.nextNotice with
    | some n => fillNotice i n s
    | none => s

/-! ### Sending (R159, R169, R170, R183) -/

def BSlot.isSending : BSlot → Bool
  | .sending _ => true
  | _ => false

def SSlot.isSending : SSlot → Bool
  | .sending _ => true
  | _ => false

/-- The slot whose frame is on the line. -/
def State.bSending (s : State) : Option (Nat × BFill) :=
  bSlotNumbers.findSome? fun i => match s.bSlot i with | .sending f => some (i, f) | _ => none

def State.sSending (s : State) : Option (Nat × SFill) :=
  sSlotNumbers.findSome? fun i => match s.sSlot i with | .sending f => some (i, f) | _ => none

/-- A frame of this priority may be sent in the port's state (R162). -/
def PortState.sendable (p : PortState) (priority : Nat) : Bool :=
  p == .active || (p == .caution && priority ≤ 3)

/-- The sendable PENDING slots of the B-port. -/
def State.bSendable (s : State) : List (Nat × BFill) :=
  bSlotNumbers.filterMap fun i =>
    match s.bSlot i with
    | .pending f => if s.bp.link.state.sendable f.frame.priority then some (i, f) else none
    | _ => none

/-- The choice of a slot (R169). -/
def State.bChoice (s : State) : Option (Nat × BFill) :=
  best (fun x y =>
    match s.settings.bTxOrder with
    | .priority =>
      x.2.frame.priority < y.2.frame.priority
        || (x.2.frame.priority == y.2.frame.priority && x.2.fill < y.2.fill)
    | .fill => x.2.fill < y.2.fill) s.bSendable

/-- The sendable PENDING slots of the S-port. -/
def State.sSendable (s : State) : List (Nat × SFill) :=
  sSlotNumbers.filterMap fun i =>
    match s.sSlot i with
    | .pending f => if s.sp.link.state.sendable f.frame.priority then some (i, f) else none
    | _ => none

/-- The choice of an S-port slot (R183). The oldest fill goes first for a PART_RESET reply too, against a later segment of an
earlier reply (DEDUCED, notes/assumptions/57). -/
def State.sChoice (s : State) : Option (Nat × SFill) :=
  best (fun x y =>
    x.2.frame.priority < y.2.frame.priority
      || (x.2.frame.priority == y.2.frame.priority && x.2.fill < y.2.fill)) s.sSendable

def beginB (s : State) : State :=
  match s.bSending, s.bChoice with
  | none, some (i, f) => s.setBSlot i (.sending f)
  | _, _ => s

def beginS (s : State) : State :=
  match s.sSending, s.sChoice with
  | none, some (i, f) => s.setSSlot i (.sending f)
  | _, _ => s

/-- A SENDING B-port slot returns (R170, R172): a frame whose mark was set while it was on the line is out of date, and
is aborted. -/
def returnB (i : Nat) (f : BFill) (s : State) : State :=
  if f.remarked || (s.bp.link.state == .caution && 4 ≤ f.frame.priority) then emptySlot i f .aborted s
  else s.setBSlot i (.pending f)

/-- A SENDING S-port slot returns (R183). -/
def returnS (i : Nat) (f : SFill) (s : State) : State :=
  if s.sp.link.state == .caution && f.item.isNotice then emptySSlot i f .aborted s
  else s.setSSlot i (.pending f)

/-- The transmit count falls with a frame sent, and the port state is judged (R161, R162). -/
def sentGood (p : Port) (s : State) : State :=
  let l := s.link p
  judgeLink p (setCounts p { l with tx := l.tx - 1 } s)

/-- The B-port's frame is sent (R170, R175). -/
def sentB (i : Nat) (f : BFill) (s : State) : State :=
  let s := s.setBSlot i (.empty .ok)
  let s := if f.origin = .relay then { s with bp := { s.bp with relay := s.bp.relay.tail } } else s
  sentGood .b s

def Reply.advance (id : Nat) (r : Reply) : Reply := if r.id = id then { r with sent := r.sent + 1 } else r

def Notice.advance (id : Nat) (n : Notice) : Notice :=
  if n.id = id then { n with sent := n.sent + 1, begun := true } else n

/-- The reply's last segment is the one that completes. -/
def Reply.finishes (id : Nat) (r : Reply) : Bool := r.id == id && r.segments ≤ r.sent + 1

/-- The notice's last segment is the one that completes. -/
def Notice.finishes (id : Nat) (n : Notice) : Bool := n.id == id && n.segments ≤ n.sent + 1

/-- A segment of an item has completed OK: the item goes on to its next one, or leaves its queue (R197). -/
def itemSent (i : SItem) (s : State) : State :=
  match i with
  | .reply id => setReplies ((s.sp.replies.filter fun r => !r.finishes id).map (Reply.advance id)) s
  | .notice id => setNotices ((s.sp.notices.filter fun n => !n.finishes id).map (Notice.advance id)) s

/-- The item is the reply of the pending PART_RESET (R194). -/
def State.isResetReply (s : State) : SItem → Bool
  | .reply id => s.sp.resetPending && s.sp.replies.any fun r =>
      r.id == id && r.kind == Kind.partReset && r.result == .ok
  | .notice _ => false

/-- The S-port's frame is sent (R183, R194, R197). The PART_RESET reply's completion takes the reset although an earlier
reply may still have segments to send (DEDUCED, notes/assumptions/57). -/
def sentS (i : Nat) (f : SFill) (s : State) : State :=
  if s.isResetReply f.item then fullReset s
  else sentGood .s (itemSent f.item (s.setSSlot i (.empty .ok)))

/-- A transmit error (R161, R170): the port enters OFF, or the slot returns. -/
def transmitErrorAt (p : Port) (e : TxError) (s : State) : State :=
  let l := s.link p
  judgeLink p (setCounts p { l with tx := txUp l.tx, lastError := some (txErrorKind e) } s)

/-! ### The receive queues (R173, R179) -/

/-- A frame joins a receive queue of 16; a full one is handled by the rx mode. Answers the queue and whether a frame was
lost. -/
def enqueue (mode : RxMode) (f : Frame) (q : List Frame) : List Frame × Bool :=
  if q.length < Config.receive then (q ++ [f], false)
  else
    match mode with
    | .keepOldest => (q, true)
    | .keepNewest => (q.tail ++ [f], true)

/-- The overrun flag is set; PORT_STATE is queued when it was clear. -/
def setOverrun (p : Port) (s : State) : State :=
  let l := s.link p
  let s := setLink p { l with overrun := true } s
  if l.overrun then s else notifyPort p .overrun s

/-- The B-port queues a frame for the bay table (R173). -/
def queueB (f : Frame) (s : State) : State :=
  if (f.dest = 0 ∨ f.dest = 255) ∧ (s.bayOfPost f.source).isSome = true then
    let (q, lost) := enqueue s.settings.bRxMode f s.bp.rxq
    let s := { s with bp := { s.bp with rxq := q } }
    if lost then setOverrun .b s else s
  else s

/-- The S-port queues a frame for request intake (R179). -/
def queueS (f : Frame) (s : State) : State :=
  if f.dest = s.settings.partAddress ∧ 1 ≤ f.source ∧ f.source ≤ 254 ∧ f.source ≠ s.settings.partAddress then
    let (q, lost) := enqueue s.settings.sRxMode f s.sp.rxq
    let s := { s with sp := { s.sp with rxq := q } }
    if lost then setOverrun .s s else s
  else s

end Sys2Proof.Machine
end

