-- ==== Sys2Proof/Machine/Intake.lean ====
section
/-! DEFINITION. Request intake (R180 to R182, R198): the frame at the head of the S-port receive queue is judged by tag,
kind, permission and format, and the rule that owns the request gives the result. -/

namespace Sys2Proof.Machine

/-- What the owning rule gives: the state it leaves, the result code and the reply's fields. -/
structure Answer where
  state : State
  result : Result
  body : ReplyBody

/-- A refusal has no body and changes nothing. -/
def refuse (r : Result) (s : State) : Answer := ⟨s, r, .none⟩

/-- A request may be taken: fewer than 4 replies, and no PART_RESET pending (R180). -/
def State.intakeOpen (s : State) : Bool := s.sp.replies.length < Config.replies && !s.sp.resetPending

/-- The head frame leaves the receive queue. -/
def popS (s : State) : State := { s with sp := { s.sp with rxq := s.sp.rxq.tail } }

/-- The reply goes to the source of the request (R182). -/
def replyTo (f : Frame) (tag : Nat) (a : Answer) : State := addReply f.source tag f.kind a.result a.body a.state

/-- Steps 1, 3, 4 and 5 of intake, for a frame of a request's own kind. -/
def answerFrame {α : Type} (f : Frame) (parse : List Byte → Option α) (own : α → State → Answer) (s : State) :
    State :=
  match tagOf f.payload with
  | none => replyTo f 0 (refuse .format s)
  | some tag =>
    if isManagementKind f.kind ∧ f.source ≠ s.settings.mgmtNode then replyTo f tag (refuse .notPermitted s)
    else
      match parse f.payload with
      | none => replyTo f tag (refuse .format s)
      | some q => replyTo f tag (own q s)

/-- A request of one kind is taken when its frame stands at the head of the receive queue and intake is open. -/
def takeRequest {α : Type} (kind : Nat) (parse : List Byte → Option α) (own : α → State → Answer) (s : State) :
    State :=
  match s.sp.rxq with
  | [] => s
  | f :: _ => if s.intakeOpen ∧ f.kind = kind then answerFrame f parse own (popS s) else s

/-- The result of a frame whose kind is no request's and no relay kind's (R180 step 2). -/
def refusedKind (f : Frame) (s : State) : State :=
  match tagOf f.payload with
  | none => replyTo f 0 (refuse .format s)
  | some tag => replyTo f tag (refuse (if isBaySegmentKind f.kind then .relayRefused else .format) s)

/-- A frame of such a kind is taken. -/
def takeRefused (s : State) : State :=
  match s.sp.rxq with
  | [] => s
  | f :: _ => if s.intakeOpen ∧ ¬ isRequestKind f.kind = true then refusedKind f (popS s) else s

/-- At least one bay is in service (R49, R111). -/
def State.anyInService (s : State) : Bool := s.bays.toList.any fun x => x.state.inService

/-- The state and bay codes of a record "as it stands"; of one this same request has closed they are unstated
(notes/assumptions/3). -/
def State.stateCodeOf (s : State) (h : Nat) : Nat :=
  match s.find h with
  | some r => r.state.code
  | none => Config.goneState h

def State.bayCodeOf (s : State) (h : Nat) : Nat :=
  match s.find h with
  | some r => bayCode r.bay
  | none => Config.goneBay h

/-- The result of an accepted request whose value may have been clamped. -/
def okOrClamped (clamped : Bool) : Result := if clamped then .clamped else .ok

end Sys2Proof.Machine
end

