-- ==== Sys2Proof/Machine/Booking.lean ====
section
/-! DEFINITION. The requests of the book and of the walk-up service: BOOK (R49 to R52), AMEND (R56 to R58), CANCEL (R60),
ENTRY (R90, R91), WALKUP (R111 to R115) and WALKUP_CANCEL (R118). -/

namespace Sys2Proof.Machine

/-! ### The window of a record (R40) -/

/-- The times of a record, worked out from the class entry as it stands. -/
structure Window where
  start : Tick
  length : Nat
  holdBegin : Tick
  endTick : Tick
  intervalEnd : Tick
  deriving DecidableEq, Repr

def State.window (s : State) (c : Nat) (start : Tick) (length : Nat) : Window :=
  let e := plusTicks start length
  ⟨start, length, minusTicks start (s.classOf c).lead, e, plusTicks e (s.classOf c).turnover⟩

/-- BOOK step 3, and AMEND step 6 (R50, R56): the horizon, then the grace deadline. -/
def State.checkStart (s : State) (c : Nat) (start : Tick) : Option Result :=
  if (s.settings.horizon : Int) < diff start s.clock then some .beyondHorizon
  else if atOrAfter s.clock (plusTicks start (s.classOf c).grace) then some .tooLate
  else none

/-! ### BOOK -/

/-- The bay a BOOK names is outside 0..127, unloaded, or of another class (R49). -/
def State.badBay (s : State) (c : Nat) : Option Nat → Bool
  | none => false
  | some b => Config.bays ≤ b || !(s.bay b).loaded || (s.bay b).cls != c

/-- BOOK step 2 (R49). -/
def State.badBook (s : State) (q : BookReq) : Bool :=
  q.token == 0 || (s.cls q.cls).isNone || s.badBay q.cls q.bay || 1048575 < q.start || q.length < 6 || 1 < q.tier

def tierOf : Nat → Tier
  | 0 => .standard
  | 1 => .priority
  | _ => .walkup

/-- What an accepted BOOK inserts. -/
structure BookPlan where
  window : Window
  tier : Tier
  clamped : Bool
  deriving DecidableEq, Repr

/-- The bay-bound test, when a bay is named, and the class count (R54, R55). -/
def State.fits (s : State) (c : Nat) (bay : Option Nat) (t : Tier) (leave : Option Nat) (w : Window) : Bool :=
  (match bay with
    | some b => s.bayFits b leave w.holdBegin w.intervalEnd
    | none => true)
  && s.classFits c t leave w.holdBegin w.intervalEnd

/-- Steps 1 to 8 of BOOK (R49 to R52): the first that fails gives the reply. A live walk-up record of the token refuses the
request only when the intervals meet (R51; DEDUCED, notes/assumptions/48). -/
def State.planBook (s : State) (q : BookReq) : Except (Result × ReplyBody) BookPlan :=
  let start : Tick := BitVec.ofNat 20 q.start
  if !s.clockSet || !s.anyInService then .error (.notReady, .none)
  else if s.badBook q then .error (.badField, .none)
  else
    match s.checkStart q.cls start with
    | some r => .error (r, .none)
    | none =>
      let length := min q.length s.settings.maxLength
      let w := s.window q.cls start length
      if s.walkups.any (fun e => e.token == q.token) || s.duplicate q.token none w.holdBegin w.intervalEnd then
        .error (.duplicate, .none)
      else
        let v := s.evaluateBook q.token q.cls q.bay start length q.tier
        match v.refusal with
        | some reason => .error (.refusedPolicy, .policyRefusal reason v.index)
        | none =>
          let w := s.window q.cls start v.length
          if s.bookFull then .error (.bookFull, .none)
          else if !s.fits q.cls q.bay (tierOf v.tier) none w then .error (.noFit, .none)
          else .ok ⟨w, tierOf v.tier, v.length < q.length⟩

/-- The record that BOOK step 9 makes in a slot (R52). -/
def State.bookRecord (s : State) (slot : Nat) (q : BookReq) (p : BookPlan) : Reservation where
  handle := s.handleFor slot
  token := q.token
  cls := q.cls
  bay := q.bay
  tier := p.tier
  start := p.window.start
  length := p.window.length
  holdBegin := p.window.holdBegin
  endTick := p.window.endTick
  intervalEnd := p.window.intervalEnd
  order := s.nextOrder
  state := .booked
  arrived := false
  overstay := false
  interrupted := false
  reseats := 0
  captures := Captures.none
  energy := none
  sessions := 0

/-- Steps 9 and 10: the record is inserted, and its hold begins at once when it is due (R52). -/
def insertBooking (r : Reservation) (s : State) : State :=
  let s := addRecord r s
  if atOrAfter s.clock r.holdBegin then beginHold r.handle s else s

def ownBook (q : BookReq) (s : State) : Answer :=
  match s.planBook q, s.freeSlot with
  | .error (r, body), _ => ⟨s, r, body⟩
  | .ok _, none => refuse .bookFull s
  | .ok p, some slot =>
    let r := s.bookRecord slot q p
    let s := takeEvent (insertBooking r) s
    ⟨s, okOrClamped p.clamped,
      .book r.handle r.length r.tier r.holdBegin (s.stateCodeOf r.handle) (s.bayCodeOf r.handle)⟩

/-- BOOK. -/
def execBook (s : State) : Host.Outcome State Fault Refusal :=
  .next (takeRequest Kind.book parseBook ownBook s)

/-! ### AMEND -/

/-- The end of a record in session at or before now is clamped to now (R56 step 9). -/
def State.clampEnd (s : State) (r : Reservation) (w : Window) : Window :=
  let d := diff s.clock w.start
  { w with
    length := if 0 ≤ d ∧ d ≤ 65535 then d.toNat else Config.unstatedLength d
    endTick := s.clock
    intervalEnd := plusTicks s.clock (s.classOf r.cls).turnover }

/-- Steps 2 and 4 to 9 of AMEND with the tests of R57: the new window and whether the reply is CLAMPED. -/
def State.planAmend (s : State) (r : Reservation) (q : AmendReq) : Except Result (Window × Bool) :=
  if q.start.any (fun t => 1048575 < t) || q.length.any (fun n => n < 6) then .error .badField
  else if q.start.isSome && r.state != .booked then .error .wrongState
  else if q.length.isSome && r.state == .waitingBay then .error .wrongState
  else
    match q.start.bind fun t => s.checkStart r.cls (BitVec.ofNat 20 t) with
    | some e => .error e
    | none =>
      let start := match q.start with
        | some t => BitVec.ofNat 20 t
        | none => r.start
      let given := q.length.getD r.length
      let length := min given s.settings.maxLength
      let w := s.window r.cls start length
      let ended := atOrAfter s.clock w.endTick
      if r.state == .held && ended then .error .tooLate
      else
        let clamp := r.state.inSession && ended
        let clamped := length < given || (clamp && isAfter s.clock w.endTick)
        let w := if clamp then s.clampEnd r w else w
        if s.duplicate r.token (some r.handle) w.holdBegin w.intervalEnd then .error .duplicate
        else if !s.fits r.cls r.bay r.tier (some r.handle) w then .error .noFit
        else .ok (w, clamped)

def Reservation.withWindow (r : Reservation) (w : Window) : Reservation :=
  { r with
    start := w.start, length := w.length, holdBegin := w.holdBegin, endTick := w.endTick,
    intervalEnd := w.intervalEnd }

/-- A record takes its new window; it moves in the book when its hold-begin has changed (R57 steps 1 and 2). -/
def rewindow (r : Reservation) (w : Window) (s : State) : State :=
  if w.holdBegin = r.holdBegin then s.modRec r.handle fun q => q.withWindow w
  else insertRecord (r.withWindow w) { s with book := s.book.filter fun q => q.handle != r.handle }

/-- The bay timer of a record whose end has changed is rewritten when its purpose depends on the end (R34, R57 step 3). -/
def rewriteTimer (r : Reservation) (w : Window) (s : State) : State :=
  match r.state.holdsBay && w.endTick != r.endTick, r.bay with
  | true, some b =>
    match (s.bay b).timer with
    | .running _ .windowEnd => armTimer b .windowEnd w.endTick s
    | .running _ .overstay => armTimer b .overstay (plusTicks w.endTick (s.bayClass b).overstay) s
    | _ => s
  | _, _ => s

/-- An AMEND that fits is applied (R57 steps 1 to 4). -/
def applyAmend (r : Reservation) (w : Window) (s : State) : State :=
  let s := rewriteTimer r w (rewindow r w s)
  if r.state = .booked ∧ atOrAfter s.clock w.holdBegin = true then beginHold r.handle s else s

def ownAmend (q : AmendReq) (s : State) : Answer :=
  match s.find q.handle with
  | none => refuse .unknownHandle s
  | some r =>
    let body (w : Window) (s : State) : ReplyBody :=
      .amend w.start w.length w.endTick w.holdBegin (s.stateCodeOf r.handle) (s.bayCodeOf r.handle)
    if q.start.isNone && q.length.isNone then
      ⟨s, .ok, body ⟨r.start, r.length, r.holdBegin, r.endTick, r.intervalEnd⟩ s⟩
    else
      match s.planAmend r q with
      | .error e => refuse e s
      | .ok (w, clamped) =>
        let s := takeEvent (applyAmend r w) s
        ⟨s, okOrClamped clamped, body w s⟩

/-- AMEND. -/
def execAmend (s : State) : Host.Outcome State Fault Refusal :=
  .next (takeRequest Kind.amend parseAmend ownAmend s)

/-! ### CANCEL -/

/-- A record not in session is closed CANCELLED, its held bay first freed (R60). -/
def cancelRecord (r : Reservation) (s : State) : State :=
  match r.state, r.bay with
  | .held, some b => callRelease b (closeRecord r.handle .cancelled (freeBay b s))
  | _, _ => closeRecord r.handle .cancelled s

def ownCancel (h : Nat) (s : State) : Answer :=
  match s.find h with
  | none => refuse .unknownHandle s
  | some r =>
    if r.state.inSession then refuse .inSession s
    else ⟨takeEvent (cancelRecord r) s, .ok, .closed .cancelled⟩

/-- CANCEL. -/
def execCancel (s : State) : Host.Outcome State Fault Refusal :=
  .next (takeRequest Kind.cancel parseHandle ownCancel s)

/-! ### ENTRY -/

/-- The matched record of a token (R90). -/
def State.matched (s : State) (token : Nat) : Option Reservation :=
  match s.book.find? fun r => r.token == token && inInterval s.clock r.holdBegin r.intervalEnd with
  | some r => some r
  | none =>
    best (fun a b => diff a.holdBegin b.holdBegin < 0)
      (s.book.filter fun r => r.token == token && r.state == .booked && isAfter r.holdBegin s.clock
        && decide (diff r.holdBegin s.clock ≤ ((s.classOf r.cls).early : Int)))

/-- The bay an early arrival takes, if any (R91). -/
def State.earlyBay (s : State) (r : Reservation) : Option Nat :=
  match r.bay with
  | some b =>
    if (s.bay b).state = .free ∧ runCovers (s.freeRun? b (some r.handle)) (s.need r) = true then some b else none
  | none => s.select r none

/-- The early arrival of a BOOKED record (R91). -/
def earlyArrival (r : Reservation) (s : State) : State :=
  match s.earlyBay r with
  | some b => place r.handle b .holdBegun s
  | none => s

/-- ARRIVED, with the record's state and bay as they stand (R90 step 3). -/
def notifyArrived (h : Nat) (s : State) : State :=
  match s.find h with
  | some q => notify (.arrived q.handle q.token q.state q.bay) s
  | none => s

/-- ENTRY's steps on its matched record; a second ENTRY for an arrived record changes nothing (R90;
notes/assumptions/26). -/
def arrive (r : Reservation) (s : State) : State :=
  if r.arrived then s
  else
    let s := if r.state = .booked then earlyArrival r s else s
    notifyArrived r.handle (s.modRec r.handle fun q => { q with
      arrived := true
      captures := { q.captures with arrivedAt := some (q.captures.arrivedAt.getD s.clock) } })

/-- ENTRY (R90). A token of 0 is looked at before the clock (DESIGN CHOICE, notes/assumptions/47). -/
def ownEntry (token : Nat) (s : State) : Answer :=
  if token = 0 then refuse .badField s
  else if !s.clockSet then refuse .notReady s
  else
    match s.matched token with
    | none => ⟨s, .ok, .entryNoMatch⟩
    | some r =>
      let s := takeEvent (arrive r) s
      ⟨s, .ok, .entryMatch r.handle (s.stateCodeOf r.handle) (s.bayCodeOf r.handle)⟩

/-- ENTRY. -/
def execEntry (s : State) : Host.Outcome State Fault Refusal :=
  .next (takeRequest Kind.entry parseToken ownEntry s)

/-! ### WALKUP -/

/-- WALKUP step 2 (R111): the token is 0, the mask empty, or it names a class whose entry is invalid. -/
def State.badWalkup (s : State) (token mask : Nat) : Bool :=
  token == 0 || mask == 0 || (maskClasses mask).any fun c => (s.cls c).isNone

/-- The five checks of WALKUP (R111): the applied stay, or the reply of the first check that fails. -/
def State.planWalkup (s : State) (token mask : Nat) : Except (Result × ReplyBody) Nat :=
  if !s.clockSet || !s.anyInService then .error (.notReady, .none)
  else if s.badWalkup token mask then .error (.badField, .none)
  else if s.liveCount token ≠ 0 ∨ s.walkups.any (fun w => w.token == token) = true then .error (.duplicate, .none)
  else
    let v := s.evaluateWalkup token mask
    match v.refusal with
    | some reason => .error (.refusedPolicy, .policyRefusal reason v.index)
    | none => if s.bookFull then .error (.bookFull, .none) else .ok v.length

/-- Walk-up assignment (R112): the longest free run, then the lower floor sum of the branch, then the lower number. -/
def State.assignBay (s : State) (mask : Nat) : Option Nat :=
  let run b := saturate (s.freeRun? b none)
  let sum b := s.floorSum (s.bay b).branch
  best (fun x y => run y < run x || (run x == run y && sum x < sum y))
    (bayNumbers.filter fun b =>
      (s.bay b).loaded && (s.bay b).state == .free && maskHas mask (s.bay b).cls && s.walkupRun b)

/-- The walk-up joins the queue's tail (R115). -/
def joinWalkups (token mask stay : Nat) (s : State) : State :=
  { s with walkups := s.walkups ++
      [⟨token, mask, stay, s.clock, plusTicks s.clock s.settings.walkupPatience⟩] }

def ownWalkup (q : Nat × Nat) (s : State) : Answer :=
  match s.planWalkup q.1 q.2, s.freeSlot with
  | .error (r, body), _ => ⟨s, r, body⟩
  | .ok _, none => refuse .bookFull s
  | .ok stay, some slot =>
    match s.assignBay q.2 with
    | some b =>
      let r := s.walkRecord slot q.1 b stay .booked
      let grace := s.graceOf r
      let s := takeEvent (assignWalkup slot q.1 b stay .request none) s
      ⟨s, .ok, .assigned r.handle b r.cls r.length grace⟩
    | none =>
      if Config.walkups ≤ s.walkups.length then refuse .levelFull s
      else
        let s' := joinWalkups q.1 q.2 stay s
        ⟨s', .queued, .queued s'.walkups.length (plusTicks s.clock s.settings.walkupPatience)⟩

/-- WALKUP. -/
def execWalkup (s : State) : Host.Outcome State Fault Refusal :=
  .next (takeRequest Kind.walkup parseWalkup ownWalkup s)

/-! ### WALKUP_CANCEL -/

def ownWalkupCancel (token : Nat) (s : State) : Answer :=
  if token = 0 then refuse .badField s
  else
    match positionOf (fun w => w.token == token) s.walkups with
    | some n => ⟨dropWalkup token s, .ok, .position n⟩
    | none => refuse .unknownHandle s

/-- WALKUP_CANCEL (R118). -/
def execWalkupCancel (s : State) : Host.Outcome State Fault Refusal :=
  .next (takeRequest Kind.walkupCancel parseToken ownWalkupCancel s)

end Sys2Proof.Machine
end

