-- ==== Sys2Proof/Machine/Expiries.lean ====
section
/-! DEFINITION. The level clock's own events: TICK (R23, R24, R151), the expiries that follow it as steps of their own
(R33, R84, R89, R117, R128), and SILENCE_LIMIT (R151). -/

namespace Sys2Proof.Machine

/-! ### What is due -/

/-- A BOOKED record whose hold-begin is at or before now: now has reached it (R84, R30; DESIGN CHOICE exactly half the clock
away, notes/assumptions/44). -/
def State.holdDue (s : State) (r : Reservation) : Bool := r.state == .booked && atOrAfter s.clock r.holdBegin

/-- The first such record in book order (R42). -/
def State.dueHold (s : State) : Option Nat := (s.book.find? s.holdDue).map Reservation.handle

/-- A waiting record whose start plus the class grace now has reached (R89, R30; notes/assumptions/44). -/
def State.unservedNow (s : State) (h : Nat) : Bool :=
  match s.find h with
  | some r => r.state == .waitingBay && atOrAfter s.clock (s.graceOf r)
  | none => false

/-- The first waiting record, in the list's order, that the last comparison found due and that still is. -/
def State.dueUnserved (s : State) : Option Nat :=
  s.waiting.find? fun h => s.unservedDue.contains h && s.unservedNow h

/-- The first walk-up entry from the head whose expiry is at or before now (R117). -/
def State.dueWalkup (s : State) : Option WalkEntry := s.walkups.find? fun w => atOrAfter s.clock w.expiry

/-- The lowest-numbered bay whose running timer is at or before now (R33). -/
def State.dueTimer (s : State) : Option Nat := bayNumbers.find? fun b => (s.bay b).timer.due s.clock

/-- The lowest-numbered bay that this tick's comparison found silent (R151). -/
def State.dueSilence (s : State) : Option Nat := bayNumbers.find? fun b => (s.bay b).silenceDue

/-! ### The steps -/

/-- HOLD_BEGIN of the record that is due. -/
def takeHold (s : State) : State :=
  match s.dueHold with
  | some h => takeEvent (beginHold h) s
  | none => s

/-- UNSERVED of the waiting record that is due. -/
def takeUnserved (s : State) : State :=
  match s.dueUnserved with
  | some h =>
    takeEvent (closeRecord h .unserved) { s with unservedDue := s.unservedDue.filter (· != h) }
  | none => s

/-- A walk-up entry leaves the queue on its expiry, with WALKUP_EXPIRED (R117). -/
def expireWalkup (w : WalkEntry) (s : State) : State :=
  notify (.walkupExpired w.token w.mask w.enqueuedAt) (dropWalkup w.token s)

def takeWalkupExpiry (s : State) : State :=
  match s.dueWalkup with
  | some w => expireWalkup w s
  | none => s

/-- The switch of an armed commit whose boundary has been reached (R128). -/
def takeSwitch (s : State) : State :=
  if s.switchDue ∧ s.armed then takeEvent (switchSchedule .boundary) s else { s with switchDue := false }

/-- The purpose of a running timer. -/
def Timer.purpose? : Timer → Option Purpose
  | .running _ p => Option.some p
  | .none | .frozen _ _ => Option.none

/-- The expiry of one purpose on one bay: taken when the bay's timer is due with it and no lower-numbered bay's timer is
due (R33). -/
def takeExpiry (p : Purpose) (b : Nat) (s : State) : State :=
  if s.dueTimer = some b ∧ (s.bay b).timer.purpose? = some p then takeEvent (expire b) s else s

/-- A bay that this tick found silent goes SUSPECT, in ascending bay number (R151). -/
def takeSilence (b : Nat) (s : State) : State :=
  if s.dueSilence = some b then takeEvent (enterSuspect b .silent) s else s

/-! ### Catching up -/

/-- One step that has fallen due and has not been taken, in a fixed order (notes/assumptions/9). -/
def catchStep (s : State) : Option State :=
  if s.switchDue then some (takeSwitch s)
  else if s.dueHold.isSome then some (takeHold s)
  else if s.dueUnserved.isSome then some (takeUnserved s)
  else
    match s.dueTimer with
    | some b => some (takeEvent (expire b) s)
    | none =>
      if s.dueWalkup.isSome then some (takeWalkupExpiry s)
      else s.dueSilence.map fun b => takeSilence b s

/-- Every deadline is taken at the count that reached it, before the count moves on (R33: a timer is taken once, at its
deadline; notes/assumptions/9). -/
def catchUp : Nat → State → State
  | 0, s => s
  | fuel + 1, s =>
    match catchStep s with
    | some s' => catchUp fuel s'
    | none => s

/-! ### TICK -/

/-- The silence limit (R151). -/
def State.silenceLimit (s : State) : Nat := s.settings.silencePeriods * s.settings.statusPeriod

/-- A loaded bay that is in service and not SUSPECT advances its silence ticks, held at 300 (R151). -/
def Bay.tickSilence (limit : Nat) (x : Bay) : Bay :=
  if x.loaded && x.state.inService && x.state != .suspect then
    let n := min 300 (x.silence + 1)
    { x with silence := n, silenceDue := decide (limit ≤ n) }
  else x

/-- The silence ticks advance, and are compared with the limit, while the B-port is ACTIVE or CAUTION alone (R151). That no
limit is compared in the other states, whatever SET_PARAM has made of it, is the model's reading (DEDUCED,
notes/assumptions/56). -/
def advanceSilence (s : State) : State :=
  if s.bp.link.state.sends then { s with bays := s.bays.map (Bay.tickSilence s.silenceLimit) } else s

/-- The waiting records that this comparison finds due (R89). -/
def compareWaiting (s : State) : State := { s with unservedDue := s.waiting.filter s.unservedNow }

/-- The share unit is handed a phase: an armed boundary makes the switch due; otherwise the period is worked (R125,
R128). A phase that a backward slew has put ahead again is a boundary as any other (DEDUCED, notes/assumptions/53). -/
def handPhase (boundary : Bool) (s : State) : State :=
  if s.armed && boundary then { s with switchDue := true } else takeEvent workPeriod s

/-- One advance of the count and the phase, and the comparisons (R23, R24). -/
def tick (s : State) : State :=
  let s := catchUp finishFuel s
  let s := { s with clock := plusTicks s.clock 1, phase := nextPhase s.phase }
  let s := compareWaiting (advanceSilence s)
  handPhase (s.isBoundary s.phase) s

/-- TICK (R23). -/
def execTick (s : State) : Host.Outcome State Fault Refusal := .next (tick s)

/-- HOLD_BEGIN (R84). -/
def execHoldBegin (s : State) : Host.Outcome State Fault Refusal := .next (takeHold s)

/-- UNSERVED (R89). -/
def execUnserved (s : State) : Host.Outcome State Fault Refusal := .next (takeUnserved s)

/-- WALKUP_EXPIRED (R117). -/
def execWalkupExpired (s : State) : Host.Outcome State Fault Refusal := .next (takeWalkupExpiry s)

/-- SCHEDULE_SWITCH (R128). -/
def execScheduleSwitch (s : State) : Host.Outcome State Fault Refusal := .next (takeSwitch s)

/-- A bay operand outside 0..127 names no bay (R1). -/
def onBay (b : Nat) (f : State → State) (s : State) : Host.Outcome State Fault Refusal :=
  if b < Config.bays then .next (f s) else .fault .noSuchBay

/-- SETTLE_EXPIRY (R107). -/
def execSettleExpiry (b : Nat) (s : State) : Host.Outcome State Fault Refusal := onBay b (takeExpiry .settle b) s

/-- GRACE_EXPIRY (R108). -/
def execGraceExpiry (b : Nat) (s : State) : Host.Outcome State Fault Refusal := onBay b (takeExpiry .grace b) s

/-- PLUG_WAIT_EXPIRY (R99). -/
def execPlugWaitExpiry (b : Nat) (s : State) : Host.Outcome State Fault Refusal :=
  onBay b (takeExpiry .plugWait b) s

/-- INRUSH_EXPIRY (R140). -/
def execInrushExpiry (b : Nat) (s : State) : Host.Outcome State Fault Refusal := onBay b (takeExpiry .inrush b) s

/-- WINDOW_END_EXPIRY (R103). -/
def execWindowEndExpiry (b : Nat) (s : State) : Host.Outcome State Fault Refusal :=
  onBay b (takeExpiry .windowEnd b) s

/-- OVERSTAY_EXPIRY (R104). -/
def execOverstayExpiry (b : Nat) (s : State) : Host.Outcome State Fault Refusal :=
  onBay b (takeExpiry .overstay b) s

/-- SILENCE_LIMIT (R151). -/
def execSilenceLimit (b : Nat) (s : State) : Host.Outcome State Fault Refusal := onBay b (takeSilence b) s

end Sys2Proof.Machine
end

