-- ==== Sys2Proof/Machine/LinkEvents.lean ====
section
/-! DEFINITION. The events of the two links: frames received, errors, idle gaps, the return to ACTIVE, fills and the
sending of frames, and the two full resets. -/

namespace Sys2Proof.Machine

/-! ### Full reset -/

/-- POWER_ON (R195). -/
def execPowerOn (s : State) : Host.Outcome State Fault Refusal := .next (fullReset s)

/-- RESET_INPUT (R195). -/
def execResetInput (s : State) : Host.Outcome State Fault Refusal := .next (fullReset s)

/-! ### Receiving -/

/-- A frame on a segment, as the port's receiver takes it: nothing while the port does not receive; the link error it
finds; or a frame counted and then queued (R160 to R162). -/
def receiveWire (p : Port) (queue : Frame → State → State) (w : WireFrame) (s : State) : State :=
  if (s.link p).state.sends then
    match readWire w with
    | .error e => receiveErrorAt p e s
    | .ok f => queue f (receivedGood p s)
  else s

/-- B_FRAME_RECEIVED (R173). -/
def execBFrameReceived (w : WireFrame) (s : State) : Host.Outcome State Fault Refusal :=
  .next (receiveWire .b queueB w s)

/-- S_FRAME_RECEIVED (R179). -/
def execSFrameReceived (w : WireFrame) (s : State) : Host.Outcome State Fault Refusal :=
  .next (receiveWire .s queueS w s)

/-- RECEIVE_ERROR (R160): a port that does not receive finds none. -/
def execReceiveError (p : Port) (e : RxError) (s : State) : Host.Outcome State Fault Refusal :=
  .next (if (s.link p).state.sends then receiveErrorAt p e s else s)

/-! ### Idle gaps and the return to ACTIVE -/

/-- The idle-gap count at which a port leaves its state (R162). -/
def gapsNeeded : PortState → Option Nat
  | .joining => some Config.joinGaps
  | .recovering => some Config.recoverGaps
  | .active | .caution | .off => none

/-- One idle gap is counted by a JOINING or RECOVERING port (R159, R162). -/
def countGap (p : Port) (s : State) : State :=
  let l := s.link p
  match gapsNeeded l.state with
  | some n => setLink p { l with gaps := min n (l.gaps + 1) } s
  | none => s

/-- IDLE_GAP (R159). -/
def execIdleGap (p : Port) (s : State) : Host.Outcome State Fault Refusal := .next (countGap p s)

/-- A JOINING port that has counted its gaps enters ACTIVE (R164). -/
def completeJoin (p : Port) (s : State) : State :=
  if (s.link p).state = .joining ∧ Config.joinGaps ≤ (s.link p).gaps then takeEvent (activeReturn p) s else s

/-- JOIN_COMPLETE (R164). -/
def execJoinComplete (p : Port) (s : State) : Host.Outcome State Fault Refusal := .next (completeJoin p s)

/-- A RECOVERING port that has counted its gaps has both counts set to 0 and enters ACTIVE (R164). -/
def completeRecovery (p : Port) (s : State) : State :=
  if (s.link p).state = .recovering ∧ Config.recoverGaps ≤ (s.link p).gaps then
    takeEvent (activeReturn p) (setLink p { s.link p with tx := 0, rx := 0 } s)
  else s

/-- RECOVERY_COMPLETE (R164). -/
def execRecoveryComplete (p : Port) (s : State) : Host.Outcome State Fault Refusal := .next (completeRecovery p s)

/-! ### Filling -/

/-- One candidate goes into the lowest EMPTY slot (R168, R175). -/
def fillB (s : State) : State :=
  if s.bp.link.state.sends then
    match s.emptyBSlot, s.nextFill with
    | some i, some c => fillCandidate i c s
    | _, _ => s
  else s

/-- B_SLOT_FILL (R168). -/
def execBSlotFill (s : State) : Host.Outcome State Fault Refusal := .next (fillB s)

/-- One segment goes into the lowest EMPTY slot (R183, R197). -/
def fillS (s : State) : State :=
  if s.sp.link.state.sends then
    match s.emptySSlotNumber with
    | some i => fillSegment i s
    | none => s
  else s

/-- S_SLOT_FILL (R183). -/
def execSSlotFill (s : State) : Host.Outcome State Fault Refusal := .next (fillS s)

/-! ### Sending -/

def beginOn : Port → State → State
  | .b, s => beginB s
  | .s, s => beginS s

/-- BEGIN_FRAME (R169, R183). -/
def execBeginFrame (p : Port) (s : State) : Host.Outcome State Fault Refusal := .next (beginOn p s)

def sentOn : Port → State → State
  | .b, s => match s.bSending with
    | some (i, f) => sentB i f s
    | none => s
  | .s, s => match s.sSending with
    | some (i, f) => sentS i f s
    | none => s

/-- FRAME_SENT (R170). -/
def execFrameSent (p : Port) (s : State) : Host.Outcome State Fault Refusal := .next (sentOn p s)

/-- The slot whose frame was on the line returns, if the port has not emptied it (R170, R183). -/
def returnOn : Port → State → State
  | .b, s => match s.bSending with
    | some (i, f) => returnB i f s
    | none => s
  | .s, s => match s.sSending with
    | some (i, f) => returnS i f s
    | none => s

def State.sendingOn (s : State) : Port → Bool
  | .b => s.bSending.isSome
  | .s => s.sSending.isSome

/-- TRANSMIT_ERROR (R170): a port whose state sends nothing, or with no frame on the line, finds none. -/
def execTransmitError (p : Port) (e : TxError) (s : State) : Host.Outcome State Fault Refusal :=
  .next (if (s.link p).state.sends && s.sendingOn p then returnOn p (transmitErrorAt p e s) else s)

/-- LOST_ARBITRATION (R159, R170): neither count changes. -/
def execLostArbitration (p : Port) (s : State) : Host.Outcome State Fault Refusal := .next (returnOn p s)

end Sys2Proof.Machine
end

