-- ==== Sys2Proof/Machine/Management.lean ====
section
/-! DEFINITION. The management requests (R181): the table loads (R2, R4, R6, R67, R126), COMMIT_SCHEDULE (R127), SET_PARAM
(R188 to R190), CLOCK_SET (R26 to R28), BAY_WITHDRAW and BAY_RESTORE (R16 to R19), CLEAR_SUSPECT (R156), CHECK_PROOF
(R153), BOOK_CLEAR (R63), PORT_CLEAR (R166, R191) and PART_RESET (R194). -/

namespace Sys2Proof.Machine

/-! ### LOAD_BAY -/

/-- LOAD_BAY step 1 (R2). -/
def LoadBayReq.outOfRange (q : LoadBayReq) : Bool :=
  Config.bays ≤ q.bay || q.post < 1 || 200 < q.post || Config.branches ≤ q.branch || q.cls < 1 || Config.classes < q.cls
    || q.left.any (fun n => Config.bays ≤ n) || q.right.any (fun n => Config.bays ≤ n)

/-- LOAD_BAY step 3 (R2): a neighbour names the bay itself, or both name the same bay. -/
def LoadBayReq.badNeighbours (q : LoadBayReq) : Bool :=
  q.left == some q.bay || q.right == some q.bay || (q.left.isSome && q.left == q.right)

/-- The first check of R2 that fails. -/
def State.checkLoadBay (s : State) (q : LoadBayReq) : Option Result :=
  if q.outOfRange then some .badField
  else if (s.cls q.cls).isNone then some .badField
  else if q.badNeighbours then some .badField
  else if (s.bay q.bay).state ≠ .out then some .inUse
  else if bayNumbers.any (fun b => b != q.bay && (s.bay b).loaded && (s.bay b).post == q.post) then some .inUse
  else none

def LoadBayReq.entry (q : LoadBayReq) : MapEntry := ⟨q.post, q.branch, q.cls, q.left, q.right⟩

/-- The map entry is written; a changed post address clears every owed mark (R2). -/
def Bay.remap (m : MapEntry) (x : Bay) : Bay :=
  if x.loaded && x.post != m.post then
    { x with map := some m, power := none, access := none, lamp := false, query := false }
  else { x with map := some m }

/-- An accepted LOAD_BAY; a changed class rebinds the bay's BOOKED records (R4). -/
def loadBay (q : LoadBayReq) (s : State) : State :=
  let old := s.bay q.bay
  let s := s.modBay q.bay (Bay.remap q.entry)
  if old.loaded && old.cls != q.cls then rebind q.bay s else s

def ownLoadBay (q : LoadBayReq) (s : State) : Answer :=
  match s.checkLoadBay q with
  | some r => refuse r s
  | none => ⟨loadBay q s, .ok, .none⟩

/-- LOAD_BAY (R2). -/
def execLoadBay (s : State) : Host.Outcome State Fault Refusal :=
  .next (takeRequest Kind.loadBay parseLoadBay ownLoadBay s)

/-! ### LOAD_CLASS -/

def within (lo hi n : Nat) : Bool := lo ≤ n && n ≤ hi

/-- Every field of a class entry lies in its range (R5); the floor's upper limit is the draw. -/
def ClassEntry.inRange (c : ClassEntry) : Bool :=
  within 1 250 c.draw && within 1 c.draw c.floor && within 0 360 c.lead && within 1 360 c.grace
    && within 0 60 c.turnover && within 1 180 c.plugWait && within 0 360 c.overstay && within 0 32 c.walkupReserve
    && within 0 4320 c.walkupMin && within 1 6 c.inrush && within 0 100 c.overdrawTol && within 0 360 c.early
    && within 1 12 c.settle

/-- A loaded bay of the class is energised (R6). -/
def State.classEnergised (s : State) (c : Nat) : Bool :=
  s.bays.toList.any fun x => x.loaded && x.cls == c && x.state.energised

def loadClass (c : Nat) (e : ClassEntry) (s : State) : State :=
  { s with classes := s.classes.setIfInBounds (c - 1) (some e) }

def ownLoadClass (q : Nat × ClassEntry) (s : State) : Answer :=
  if !within 1 Config.classes q.1 || !q.2.inRange then refuse .badField s
  else if s.classEnergised q.1 then refuse .inUse s
  else ⟨loadClass q.1 q.2 s, .ok, .none⟩

/-- LOAD_CLASS (R6). -/
def execLoadClass (s : State) : Host.Outcome State Fault Refusal :=
  .next (takeRequest Kind.loadClass parseLoadClass ownLoadClass s)

/-! ### LOAD_POLICY -/

/-- The argument suits the action (R67 step 4). -/
def PolicyAction.suits (a : PolicyAction) (n : Nat) : Bool :=
  match a with
  | .accept | .skip => true
  | .refuse => within 1 15 n
  | .clampLength => within 6 65535 n
  | .setTier => n ≤ 1

/-- The valid entry a LOAD_POLICY writes; `none` when it is refused BAD_FIELD (R67 steps 3 and 4). -/
def LoadPolicyReq.entry (q : LoadPolicyReq) : Option PolicyEntry :=
  match PolicyField.ofCode q.field, Condition.ofCode q.condition, PolicyAction.ofCode q.action with
  | some f, some c, some a => if a.suits q.argument then some ⟨f, c, q.constant, a, q.argument⟩ else none
  | _, _, _ => none

def setPolicy (i : Nat) (e : Option PolicyEntry) (s : State) : State :=
  { s with policy := s.policy.setIfInBounds i e }

def ownLoadPolicy (q : LoadPolicyReq) (s : State) : Answer :=
  if Config.policyEntries ≤ q.index then refuse .badField s
  else if !q.valid then ⟨setPolicy q.index none s, .ok, .none⟩
  else
    match q.entry with
    | some e => ⟨setPolicy q.index (some e) s, .ok, .none⟩
    | none => refuse .badField s

/-- LOAD_POLICY (R67). -/
def execLoadPolicy (s : State) : Host.Outcome State Fault Refusal :=
  .next (takeRequest Kind.loadPolicy parseLoadPolicy ownLoadPolicy s)

/-! ### LOAD_PERIOD -/

/-- A period's start phase and budgets lie in their ranges (R124). -/
def LoadPeriodReq.inRange (q : LoadPeriodReq) : Bool :=
  q.start < Config.phases && q.level ≤ 4000 && q.branch.toList.all fun n => n ≤ 1000

/-- Another place of the staged copy holds a period with the start phase (R126 step 5). -/
def State.stagedElsewhere (s : State) (i start : Nat) : Bool :=
  (List.range Config.periods).any fun j =>
    j != i && (((s.staged[j]?).getD none).map Period.start) == some start

def setStaged (i : Nat) (p : Option Period) (s : State) : State :=
  { s with staged := s.staged.setIfInBounds i p }

def ownLoadPeriod (q : LoadPeriodReq) (s : State) : Answer :=
  if s.armed then refuse .armed s
  else if Config.periods ≤ q.index then refuse .badField s
  else if !q.valid then ⟨setStaged q.index none s, .ok, .none⟩
  else if !q.inRange then refuse .badField s
  else if s.stagedElsewhere q.index q.start then refuse .inUse s
  else ⟨setStaged q.index (some ⟨q.start, q.level, q.branch⟩) s, .ok, .none⟩

/-- LOAD_PERIOD (R126). -/
def execLoadPeriod (s : State) : Host.Outcome State Fault Refusal :=
  .next (takeRequest Kind.loadPeriod parseLoadPeriod ownLoadPeriod s)

/-! ### COMMIT_SCHEDULE -/

/-- A withdraw clears the armed flag; a switch that was due is withdrawn with it, and the period it held back is worked
(R127; notes/assumptions/8). -/
def withdrawCommit (s : State) : State :=
  let due := s.switchDue
  let s := { s with armed := false, switchDue := false }
  if due then takeEvent workPeriod s else s

def ownCommit (withdraw : Bool) (s : State) : Answer :=
  if withdraw then ⟨withdrawCommit s, .ok, .committed .withdrawn⟩
  else if s.armed then ⟨s, .ok, .committed .armed⟩
  else if (periodsOf s.active).isEmpty then ⟨takeEvent (switchSchedule .now) s, .ok, .committed .switched⟩
  else ⟨{ s with armed := true }, .ok, .committed .armed⟩

/-- COMMIT_SCHEDULE (R127). -/
def execCommitSchedule (s : State) : Host.Outcome State Fault Refusal :=
  .next (takeRequest Kind.commitSchedule parseCommit ownCommit s)

/-! ### SET_PARAM -/

/-- The settings (R189). -/
inductive Setting where
  | horizon | maxLength | statusPeriod | silencePeriods | sensorTolerance | relayDivisor | bRxMode | sRxMode | bTxOrder
  | bRecovery | policyDefault | walkupPatience | walkupStay | mgmtNode | partAddress
  deriving DecidableEq, Repr

/-- The setting codes (spec 11.3). -/
def Setting.ofCode : Nat → Option Setting
  | 1 => some .horizon | 2 => some .maxLength | 3 => some .statusPeriod | 4 => some .silencePeriods
  | 5 => some .sensorTolerance | 6 => some .relayDivisor | 7 => some .bRxMode | 8 => some .sRxMode
  | 9 => some .bTxOrder | 10 => some .bRecovery | 11 => some .policyDefault | 12 => some .walkupPatience
  | 13 => some .walkupStay | 14 => some .mgmtNode | 15 => some .partAddress | _ => none

/-- The limits of a numeric setting; `none` for a mode setting (R189). -/
def Setting.range : Setting → Option (Nat × Nat)
  | .horizon => some (360, 30240)
  | .maxLength => some (6, 65535)
  | .statusPeriod => some (1, 30)
  | .silencePeriods => some (2, 10)
  | .sensorTolerance => some (1, 60)
  | .relayDivisor => some (0, 16)
  | .walkupPatience => some (6, 360)
  | .walkupStay => some (6, 4320)
  | .mgmtNode => some (1, 254)
  | .partAddress => some (1, 254)
  | .bRxMode | .sRxMode | .bTxOrder | .bRecovery | .policyDefault => none

/-- The value a setting takes (R188): a number clamped to its range, a mode 0 or 1; `none` is BAD_FIELD. -/
def Setting.applied (g : Setting) (v : Nat) : Option Nat :=
  match g.range with
  | some (lo, hi) => some (max lo (min hi v))
  | none => if v ≤ 1 then some v else none

/-- The settings with one changed; a mode takes 0 for the first listed and 1 for the second. -/
def Setting.write (g : Setting) (v : Nat) (t : Settings) : Settings :=
  match g with
  | .horizon => { t with horizon := v }
  | .maxLength => { t with maxLength := v }
  | .statusPeriod => { t with statusPeriod := v }
  | .silencePeriods => { t with silencePeriods := v }
  | .sensorTolerance => { t with sensorTolerance := v }
  | .relayDivisor => { t with relayDivisor := v }
  | .bRxMode => { t with bRxMode := if v = 0 then .keepOldest else .keepNewest }
  | .sRxMode => { t with sRxMode := if v = 0 then .keepOldest else .keepNewest }
  | .bTxOrder => { t with bTxOrder := if v = 0 then .priority else .fill }
  | .bRecovery => { t with bRecovery := if v = 0 then .auto else .manual }
  | .policyDefault => { t with policyDefault := if v = 0 then .accept else .refuse }
  | .walkupPatience => { t with walkupPatience := v }
  | .walkupStay => { t with walkupStay := v }
  | .mgmtNode => { t with mgmtNode := v }
  | .partAddress => { t with partAddress := v }

/-- A setting takes a value; b_recovery AUTO moves a B-port that waits in OFF to RECOVERING (R163). -/
def applySetting (g : Setting) (v : Nat) (s : State) : State :=
  let s := { s with settings := g.write v s.settings }
  if g = .bRecovery ∧ v = 0 ∧ s.bp.link.state = .off then goState .b .recovering s else s

def ownSetParam (q : Nat × Nat) (s : State) : Answer :=
  match Setting.ofCode q.1 with
  | none => refuse .badField s
  | some g =>
    match g.applied q.2 with
    | none => refuse .badField s
    | some v => ⟨applySetting g v s, okOrClamped (v != q.2), .setting q.1 v⟩

/-- SET_PARAM (R188). -/
def execSetParam (s : State) : Host.Outcome State Fault Refusal :=
  .next (takeRequest Kind.setParam parseSetParam ownSetParam s)

/-! ### CLOCK_SET -/

/-- A deadline moves with the clock; a frozen timer holds none (R26 step 3). -/
def Timer.shift (d : Int) : Timer → Timer
  | .running t p => .running (shiftTick t d) p
  | t => t

def WalkEntry.shift (d : Int) (w : WalkEntry) : WalkEntry :=
  { w with enqueuedAt := shiftTick w.enqueuedAt d, expiry := shiftTick w.expiry d }

/-- CLOCK_SET with an empty book, steps 2 and 3 (R26). -/
def setClock (time : Tick) (phase : Nat) (s : State) : State :=
  let d := diff time s.clock
  { s with
    clock := time
    phase := phase
    clockSet := true
    bays := s.bays.map fun x => { x with timer := x.timer.shift d }
    walkups := s.walkups.map (WalkEntry.shift d) }

/-- One of the phases passed over by a forward slew of `n` ticks, or the new one, is a start phase (R28). -/
def State.passesBoundary (s : State) (phase n : Nat) : Bool :=
  (List.range n).any fun i => s.isBoundary ((phase + 1 + i) % Config.phases)

/-- CLOCK_SET with a live book: the clock and the phase move by the clamped shift, and each owner takes the clock
(R27, R28). A shift of 0 changes nothing. A backward slew fires no armed commit for the phases it passes again; a tick that
later reaches one of them fires it as any tick does (DEDUCED, notes/assumptions/53). -/
def slewClock (d : Int) (s : State) : State :=
  if d = 0 then s
  else
    let passed := decide (0 < d) && s.passesBoundary s.phase d.toNat
    let s := { s with clock := shiftTick s.clock d, phase := shiftPhase s.phase d }
    if 0 < d then handPhase passed (compareWaiting s) else takeEvent workPeriod s

def ownClockSet (q : Nat × Nat) (s : State) : Answer :=
  if 1048575 < q.1 || Config.phases ≤ q.2 then refuse .badField s
  else
    let s := catchUp finishFuel s
    let time : Tick := BitVec.ofNat 20 q.1
    let d := diff time s.clock
    if s.book.isEmpty then
      let s := takeEvent workPeriod (setClock time q.2 s)
      ⟨s, .ok, .clock s.clock s.phase d⟩
    else
      let c := clampShift d
      let s := slewClock c s
      ⟨s, okOrClamped (c != d), .clock s.clock s.phase c⟩

/-- CLOCK_SET (R26, R27). -/
def execClockSet (s : State) : Host.Outcome State Fault Refusal :=
  .next (takeRequest Kind.clockSet parseClockSet ownClockSet s)

/-! ### BAY_WITHDRAW -/

/-- The forced withdraw, steps 1 to 6 (R17). -/
def forceOut (b : Nat) (s : State) : State :=
  let st := (s.bay b).state
  let s := if st.energised then endSession b .withdrawn s
    else if st = .waitingPower then leaveQueue b s else s
  let s := dropTimer b s
  let s := match (s.bay b).holder with
    | some h => closeRecord h .evicted s
    | none => s
  oweAccess b .withdrawn s

/-- The bay goes OUT; a pending proof and a reconcile mark are dropped (R16, R153, R176). -/
def Bay.goOut (x : Bay) : Bay :=
  { x with
    state := .out, occupant := none, holder := none, timer := .none, proof := false, reconcile := false,
    silenceDue := false }

/-- An accepted withdraw that moves a bay to OUT (R16 to R18). -/
def withdraw (b : Nat) (s : State) : State :=
  let x := s.bay b
  let s := match x.state, x.holder with
    | .held, some h => reseat h b (takeOff b (dropTimer b s))
    | .out, _ | .clearing, _ | .free, _ | .held, none => s
    | .occupied, some _ | .waitingPower, _ | .starting, _ | .charging, _ | .parked, _ | .suspect, some _ =>
      forceOut b s
    | .occupied, none | .suspect, none => s
  let s := s.modBay b Bay.goOut
  rebind b (notify (.bayState b .out .withdrawn none) s)

/-- OCCUPIED..PARKED or SUSPECT with a seated holder (R16). -/
def State.hasSeated (s : State) (b : Nat) : Bool :=
  ((s.bay b).state.parkedRange || (s.bay b).state == .suspect) && (s.bay b).holder.isSome

def ownWithdraw (q : Nat × Bool) (s : State) : Answer :=
  if Config.bays ≤ q.1 then refuse .badField s
  else if (s.bay q.1).state = .out then ⟨s, .ok, .none⟩
  else if s.hasSeated q.1 && !q.2 then refuse .inSession s
  else ⟨takeEvent (withdraw q.1) s, .ok, .none⟩

/-- BAY_WITHDRAW (R16). -/
def execBayWithdraw (s : State) : Host.Outcome State Fault Refusal :=
  .next (takeRequest Kind.bayWithdraw parseWithdraw ownWithdraw s)

/-! ### BAY_RESTORE -/

/-- The record of a bay restored (R19 steps 1, 2 and 4). -/
def Bay.restored (x : Bay) : Bay :=
  { x with
    strikes := 0, disagree := 0, silence := 0, relayCount := 0, status := none, statusTick := none,
    state := .clearing, reconcile := false, silenceDue := false }

def restore (b : Nat) (s : State) : State :=
  let s := s.modBay b Bay.restored
  let s := armTimer b .settle (plusTicks s.clock (s.bayClass b).settle) s
  notify (.bayState b .clearing .restored none) (oweQuery b s)

def ownRestore (b : Nat) (s : State) : Answer :=
  if Config.bays ≤ b then refuse .badField s
  else if !(s.bay b).loaded || (s.bay b).state != .out then refuse .wrongState s
  else ⟨takeEvent (restore b) s, .ok, .none⟩

/-- BAY_RESTORE (R19). -/
def execBayRestore (s : State) : Host.Outcome State Fault Refusal :=
  .next (takeRequest Kind.bayRestore parseByte ownRestore s)

/-! ### CLEAR_SUSPECT -/

/-- The checks start afresh (R156 steps 1 and 2). -/
def Bay.cleared (x : Bay) : Bay :=
  { x with
    strikes := 0, disagree := 0, silence := 0, proof := false, status := none, statusTick := none,
    silenceDue := false }

/-- The bay continues with its seated holder (R156 step 4). -/
def resumeHolder (b : Nat) (r : Reservation) (s : State) : State :=
  let s := setHolderState b .parked (s.modBay b fun x => { x with state := .parked, occupant := some .holder })
  if isBefore s.clock r.endTick then armTimer b .windowEnd r.endTick s
  else if r.overstay then dropTimer b s
  else armTimer b .overstay (plusTicks r.endTick (s.bayClass b).overstay) s

/-- CLEAR_SUSPECT's steps; LAMP is owed, since FAULT is the mode of no other state (R156). -/
def clearSuspect (b : Nat) (s : State) : State :=
  let s := oweQuery b (s.modBay b Bay.cleared)
  let s := match s.holderRec b with
    | some r => resumeHolder b r s
    | none => armTimer b .settle (plusTicks s.clock (s.bayClass b).settle) (setBayState b .clearing s)
  notify (.bayState b (s.bay b).state .cleared (s.bay b).holder) s

def ownClearSuspect (b : Nat) (s : State) : Answer :=
  if Config.bays ≤ b then refuse .badField s
  else if (s.bay b).state ≠ .suspect then refuse .wrongState s
  else ⟨takeEvent (clearSuspect b) s, .ok, .none⟩

/-- CLEAR_SUSPECT (R156). -/
def execClearSuspect (s : State) : Host.Outcome State Fault Refusal :=
  .next (takeRequest Kind.clearSuspect parseByte ownClearSuspect s)

/-! ### CHECK_PROOF -/

def ownCheckProof (b : Nat) (s : State) : Answer :=
  if Config.bays ≤ b then refuse .badField s
  else if (s.bay b).state = .out then refuse .wrongState s
  else ⟨s.modBay b fun x => { x with proof := true }, .ok, .none⟩

/-- CHECK_PROOF (R153). -/
def execCheckProof (s : State) : Host.Outcome State Fault Refusal :=
  .next (takeRequest Kind.checkProof parseByte ownCheckProof s)

/-! ### BOOK_CLEAR -/

/-- The bays whose HELD holder a BOOK_CLEAR clears, ascending. -/
def State.heldBays (s : State) : List Nat := bayNumbers.filter fun b => (s.bay b).state == .held

/-- One record not in session is closed CLEARED, its held bay first freed (R63 step 1). -/
def clearRecord (s : State) (r : Reservation) : State :=
  match r.state, r.bay with
  | .held, some b => closeRecord r.handle .cleared (freeBay b s)
  | _, _ => closeRecord r.handle .cleared s

/-- The records BOOK_CLEAR closes, in book order. -/
def State.clearable (s : State) : List Reservation := s.book.filter fun r => !r.state.inSession

/-- BOOK_CLEAR's steps (R63); the freed bays are offered after the event, ascending, with the waiting-bay list empty. -/
def clearBook (s : State) : State :=
  let rs := s.clearable
  let freed := s.heldBays
  let s := notify (.bookCleared rs.length) (rs.foldl clearRecord s)
  freed.foldl (fun s b => callRelease b s) s

def ownBookClear (_ : Unit) (s : State) : Answer :=
  ⟨takeEvent clearBook s, .ok, .count s.clearable.length⟩

/-- BOOK_CLEAR (R63). -/
def execBookClear (s : State) : Host.Outcome State Fault Refusal :=
  .next (takeRequest Kind.bookClear parseEmpty ownBookClear s)

/-! ### PORT_CLEAR and PART_RESET -/

/-- The port of a PORT_CLEAR frame that intake lets through to its own rule. -/
def State.portToClear (s : State) (f : Frame) : Option Port :=
  if f.source = s.settings.mgmtNode then (parseByte f.payload).bind portOfCode else none

def ownPortClear (code : Nat) (s : State) : Answer :=
  match portOfCode code with
  | none => refuse .badField s
  | some _ => ⟨s, .ok, .none⟩

/-- PORT_CLEAR: the reply is added first, and then the port is cleared (R191). -/
def takePortClear (s : State) : State :=
  match s.sp.rxq with
  | [] => s
  | f :: _ =>
    if s.intakeOpen ∧ f.kind = Kind.portClear then
      let s' := answerFrame f parseByte ownPortClear (popS s)
      match s.portToClear f with
      | some p => clearPort p s'
      | none => s'
    else s

/-- PORT_CLEAR (R166, R191). -/
def execPortClear (s : State) : Host.Outcome State Fault Refusal := .next (takePortClear s)

def ownPartReset (_ : Unit) (s : State) : Answer :=
  ⟨{ s with sp := { s.sp with resetPending := true } }, .ok, .none⟩

/-- PART_RESET (R194). -/
def execPartReset (s : State) : Host.Outcome State Fault Refusal :=
  .next (takeRequest Kind.partReset parseEmpty ownPartReset s)

end Sys2Proof.Machine
end

