-- ==== Sys2Proof/Machine/PostFrames.lean ====
section
/-! DEFINITION. The frames of the bay posts, taken from the head of the B-port receive queue (R174): POST_STATUS with its
checks, reconciliation and thaw (R148 to R150, R153, R176, R37), and the post events (R92, R93, R100, R101, R106, R152),
each passed to the site as tagged traffic (R185, R186). -/

namespace Sys2Proof.Machine

/-- The head frame leaves the receive queue. -/
def popB (s : State) : State := { s with bp := { s.bp with rxq := s.bp.rxq.tail } }

/-- Every frame taken from a bay's post sets its silence ticks to 0 (R151, R174). -/
def heard (b : Nat) (s : State) : State := s.modBay b fun x => { x with silence := 0, silenceDue := false }

/-! ### Tagged traffic -/

/-- TAGGED_EVENT, with the bay's state and holder as the frame met them (R185). -/
def tagEvent (b : Nat) (payload : List Byte) (s : State) : State :=
  notify (.taggedEvent b (s.bay b).state (s.bay b).holder payload) s

/-- TAGGED_STATUS by decimation (R186), for an OUT bay too: R20 and R186 are followed where R16 reads otherwise (DEDUCED,
notes/assumptions/40). -/
def tagStatus (b : Nat) (payload : List Byte) (s : State) : State :=
  let x := s.bay b
  if s.settings.relayDivisor = 0 then s
  else if s.settings.relayDivisor ≤ x.relayCount + 1 then
    notify (.taggedStatus b x.state x.holder payload) (s.modBay b fun x => { x with relayCount := 0 })
  else s.modBay b fun x => { x with relayCount := x.relayCount + 1 }

/-! ### Events -/

/-- A post event of bay `b`: it is heard, tagged, and then takes its effect by the bay's state. -/
def takePostEvent (effect : Nat → State → State) (f : Frame) (s : State) : State :=
  match s.bayOfPost f.source with
  | none => s
  | some b => takeEvent (effect b) (tagEvent b f.payload (heard b s))

/-- The event is taken when its frame stands at the head of the receive queue. -/
def takeEventRow (wanted : PostEvent → Option (Nat → State → State)) (s : State) : State :=
  match s.bp.rxq with
  | [] => s
  | f :: _ =>
    match readPostFrame f with
    | .event e =>
      match wanted e with
      | some effect => takePostEvent effect f (popB s)
      | none => s
    | .status _ => s
    | .other => s

/-! ### The checks (R148 to R150, R153) -/

/-- No POWER mark is owed and no POWER frame is in a slot (R149). -/
def State.settled (s : State) (b : Nat) : Bool := (s.bay b).power.isNone && !s.slotHolds .power b

/-- The over-draw limit, in 0.1 kW (R149). -/
def State.drawLimit (s : State) (b : Nat) : Nat := (s.bay b).ceiling * 10 + (s.bayClass b).overdrawTol

/-- The strikes after a status (R149). -/
def State.nextStrikes (s : State) (b : Nat) (st : Status) : Nat :=
  let x := s.bay b
  if !x.state.energised then 0
  else if !s.settled b then x.strikes
  else if st.metered ≤ s.drawLimit b then 0
  else min 2 (x.strikes + 1)

/-- A status that is judged above the limit for the second time running (R149). -/
def State.overdraws (s : State) (b : Nat) (st : Status) : Bool :=
  (s.bay b).state.energised && s.settled b && decide (s.drawLimit b < st.metered)
    && decide (2 ≤ s.nextStrikes b st)

/-- The gap since the bay's previous status (R150). -/
def State.statusGap (s : State) (b : Nat) : Nat :=
  match (s.bay b).statusTick with
  | some t => (diff s.clock t).toNat
  | none => 0

/-- The sensor-disagree ticks after a status (R150). -/
def State.nextDisagree (s : State) (b : Nat) (st : Status) : Nat :=
  if st.plugged && !st.occupied then min 60 ((s.bay b).disagree + s.statusGap b) else 0

/-- The sensor test fails (R150). -/
def State.sensorFails (s : State) (b : Nat) (st : Status) : Bool :=
  st.plugged && !st.occupied && decide (s.settings.sensorTolerance ≤ s.nextDisagree b st)

/-- The checks of a status by the bay's state, in the order proof, over-draw, sensor; the first that fails ends them
(R148). -/
def checkStatus (b : Nat) (st : Status) (s : State) : State :=
  let x := s.bay b
  match x.state with
  | .out => s
  | .suspect =>
    if x.proof then
      notify (.bayState b .suspect .proof x.holder) (s.modBay b fun x => { x with proof := false })
    else s
  | .clearing | .free | .held | .occupied | .waitingPower | .starting | .charging | .parked =>
    if x.proof then enterSuspect b .proof (s.modBay b fun x => { x with proof := false })
    else
      let excess := s.overdraws b st
      let n := s.nextStrikes b st
      let s := s.modBay b fun x => { x with strikes := n }
      if excess then enterSuspect b .overdraw s
      else
        let fails := s.sensorFails b st
        let d := s.nextDisagree b st
        let s := s.modBay b fun x => { x with disagree := d }
        if fails then enterSuspect b .sensor s else s

/-- The report replaces the last reported status (R148). -/
def storeStatus (b : Nat) (st : Status) (s : State) : State :=
  s.modBay b fun x => { x with
    silence := 0, silenceDue := false, statusTick := some s.clock, status := some st }

/-! ### Reconciliation (R176) and the thaw (R37) -/

/-- The reconciled events in their order; each is judged against the bay as those before have left it. -/
inductive Missed where
  | vacated | occupied | plugged | unplugged | chargeDone
  deriving DecidableEq, Repr

/-- The event is taken when the report shows it and the bay is in one of its states. -/
def Missed.applies (m : Missed) (x : Bay) (st : Status) : Bool :=
  match m with
  | .vacated => !st.occupied && (x.state.parkedRange || (x.state == .suspect && x.holder.isSome))
  | .occupied => st.occupied && (x.state == .free || x.state == .held)
  | .plugged => st.plugged && (x.state == .free || x.state == .held
      || (x.state == .occupied && x.occupant == some .unknown))
  | .unplugged => !st.plugged && (x.state == .waitingPower || x.state.energised)
  | .chargeDone => st.charger == .done && x.state.energised

def Missed.effect (m : Missed) (b : Nat) (st : Status) (s : State) : State :=
  match m with
  | .vacated => vacatedEvent b s
  | .occupied => occupiedEvent b s
  | .plugged => pluggedEvent b st.token s
  | .unplugged => unpluggedEvent b s
  | .chargeDone => chargeDoneEvent b s

def reconcileOne (b : Nat) (st : Status) (m : Missed) (s : State) : State :=
  if m.applies (s.bay b) st then takeEvent (m.effect b st) s else s

/-- A bay whose reconcile mark is set has its first status reconciled; a bay in CLEARING is not, and the mark is cleared
whatever the outcome (R176). -/
def reconcile (b : Nat) (st : Status) (s : State) : State :=
  if (s.bay b).reconcile then
    let s := s.modBay b fun x => { x with reconcile := false }
    if (s.bay b).state = .clearing then s
    else
      let s := reconcileOne b st .vacated s
      let s := reconcileOne b st .occupied s
      let s := reconcileOne b st .plugged s
      let s := reconcileOne b st .unplugged s
      reconcileOne b st .chargeDone s
  else s

/-- A timer still frozen once the port sends again is rearmed at now plus its remaining ticks (R37). -/
def thaw (b : Nat) (s : State) : State :=
  if s.bp.link.state.sends then
    match (s.bay b).timer with
    | .frozen n p => armTimer b p (plusTicks s.clock n) s
    | .none | .running _ _ => s
  else s

/-- A POST_STATUS of bay `b` (R148, R174). The checks come before the report is stored, so a session that they end takes the
energy of the report before it (DEDUCED, notes/assumptions/50). -/
def bayStatus (b : Nat) (st : Status) (payload : List Byte) (s : State) : State :=
  let s := tagStatus b payload s
  let s := takeEvent (checkStatus b st) s
  let s := reconcile b st (storeStatus b st s)
  takeEvent (thaw b) s

def takeStatusFrame (st : Status) (f : Frame) (s : State) : State :=
  match s.bayOfPost f.source with
  | none => s
  | some b => bayStatus b st f.payload s

def takeStatusRow (s : State) : State :=
  match s.bp.rxq with
  | [] => s
  | f :: _ =>
    match readPostFrame f with
    | .status st => takeStatusFrame st f (popB s)
    | .event _ => s
    | .other => s

/-- A frame of another kind, or with a malformed payload, is taken only for its silence reset (R174, R198). -/
def takeOtherRow (s : State) : State :=
  match s.bp.rxq with
  | [] => s
  | f :: _ =>
    match readPostFrame f with
    | .other =>
      match s.bayOfPost f.source with
      | some b => heard b (popB s)
      | none => popB s
    | .status _ => s
    | .event _ => s

/-! ### The rows -/

/-- POST_STATUS (R148). -/
def execPostStatus (s : State) : Host.Outcome State Fault Refusal := .next (takeStatusRow s)

def wantOccupied : PostEvent → Option (Nat → State → State)
  | .occupied => some occupiedEvent
  | .vacated | .plugged _ | .unplugged | .chargeDone | .postFault => none

/-- OCCUPIED (R92). -/
def execOccupied (s : State) : Host.Outcome State Fault Refusal := .next (takeEventRow wantOccupied s)

def wantVacated : PostEvent → Option (Nat → State → State)
  | .vacated => some vacatedEvent
  | .occupied | .plugged _ | .unplugged | .chargeDone | .postFault => none

/-- VACATED (R106). -/
def execVacated (s : State) : Host.Outcome State Fault Refusal := .next (takeEventRow wantVacated s)

def wantPlugged : PostEvent → Option (Nat → State → State)
  | .plugged t => some fun b => pluggedEvent b t
  | .occupied | .vacated | .unplugged | .chargeDone | .postFault => none

/-- PLUGGED (R93). -/
def execPlugged (s : State) : Host.Outcome State Fault Refusal := .next (takeEventRow wantPlugged s)

def wantUnplugged : PostEvent → Option (Nat → State → State)
  | .unplugged => some unpluggedEvent
  | .occupied | .vacated | .plugged _ | .chargeDone | .postFault => none

/-- UNPLUGGED (R100, R101). -/
def execUnplugged (s : State) : Host.Outcome State Fault Refusal := .next (takeEventRow wantUnplugged s)

def wantChargeDone : PostEvent → Option (Nat → State → State)
  | .chargeDone => some chargeDoneEvent
  | .occupied | .vacated | .plugged _ | .unplugged | .postFault => none

/-- CHARGE_DONE (R100, R101). -/
def execChargeDone (s : State) : Host.Outcome State Fault Refusal := .next (takeEventRow wantChargeDone s)

def wantPostFault : PostEvent → Option (Nat → State → State)
  | .postFault => some postFaultEvent
  | .occupied | .vacated | .plugged _ | .unplugged | .chargeDone => none

/-- POST_FAULT (R152). -/
def execPostFault (s : State) : Host.Outcome State Fault Refusal := .next (takeEventRow wantPostFault s)

/-- OTHER_POST_FRAME (R174). -/
def execOtherPostFrame (s : State) : Host.Outcome State Fault Refusal := .next (takeOtherRow s)

end Sys2Proof.Machine
end

