-- ==== Sys2Proof/Machine/Queries.lean ====
section
/-! DEFINITION. The queries (R21, R62, R192, R193), the relay requests (R187) and the refused kinds (R180). -/

namespace Sys2Proof.Machine

/-! ### QUERY_BAY -/

def ownQueryBay (b : Nat) (s : State) : Answer :=
  if Config.bays ≤ b then refuse .badField s else ⟨s, .ok, .bay (s.bay b) (s.lampMode b)⟩

/-- QUERY_BAY (R21). -/
def execQueryBay (s : State) : Host.Outcome State Fault Refusal :=
  .next (takeRequest Kind.queryBay parseByte ownQueryBay s)

/-! ### QUERY_RESERVATION -/

def ownQueryReservation (h : Nat) (s : State) : Answer :=
  match s.find h with
  | none => refuse .unknownHandle s
  | some r =>
    ⟨s, .ok, .reservation r ((positionOf (fun q => q.handle == h) s.book).getD 0)
      (positionOf (fun q => q == h) s.waiting)⟩

/-- QUERY_RESERVATION (R62). -/
def execQueryReservation (s : State) : Host.Outcome State Fault Refusal :=
  .next (takeRequest Kind.queryReservation parseHandle ownQueryReservation s)

/-! ### QUERY_PORT -/

/-- The overrun flag of the port queried is cleared after it has been read (R192). -/
def clearOverrun (p : Port) (s : State) : State := setLink p { s.link p with overrun := false } s

/-- The slots of the B-port as QUERY_PORT shows them: state and outcome. -/
def State.bSlotCodes (s : State) : List (Nat × Nat) :=
  bSlotNumbers.map fun i => ((s.bSlot i).stateCode, (s.bSlot i).outcomeCode i)

def State.sSlotCodes (s : State) : List Nat := sSlotNumbers.map fun i => (s.sSlot i).stateCode

def State.portBody (s : State) : Port → ReplyBody
  | .b => .bPort s.bp.link s.bp.rxq.length s.bSlotCodes s.bp.relay.length s.bp.outage
  | .s => .sPort s.sp.link s.sp.rxq.length s.sSlotCodes s.sp.replies.length s.sp.notices.length s.sp.gapPending

def ownQueryPort (code : Nat) (s : State) : Answer :=
  match portOfCode code with
  | none => refuse .badField s
  | some p => ⟨clearOverrun p s, .ok, s.portBody p⟩

/-- QUERY_PORT (R192). -/
def execQueryPort (s : State) : Host.Outcome State Fault Refusal :=
  .next (takeRequest Kind.queryPort parseByte ownQueryPort s)

/-! ### QUERY_PART -/

/-- The number of bays in service. -/
def State.inServiceCount (s : State) : Nat := (s.bays.toList.filter fun x => x.state.inService).length

def ownQueryPart (_ : Unit) (s : State) : Answer :=
  ⟨s, .ok, .part s.clock s.phase s.clockSet s.book.length s.inServiceCount s.walkups.length s.armed
    s.settings.mgmtNode s.settings.partAddress⟩

/-- QUERY_PART (R193). -/
def execQueryPart (s : State) : Host.Outcome State Fault Refusal :=
  .next (takeRequest Kind.queryPart parseEmpty ownQueryPart s)

/-! ### Relay requests -/

/-- A relay frame of a kind is placed in the relay queue, or refused (R187). Its position counts from 1 (DESIGN CHOICE,
notes/assumptions/58). -/
def ownRelay (kind : Nat) (q : Nat × List Byte) (s : State) : Answer :=
  if (s.bayOfPost q.1).isNone then refuse .badField s
  else if Config.relay ≤ s.bp.relay.length then refuse .relayBusy s
  else
    ⟨{ s with bp := { s.bp with relay := s.bp.relay ++ [⟨kind, q.1, q.2⟩] } }, .ok,
      .position (s.bp.relay.length + 1)⟩

/-- POST_DISPLAY (R187). -/
def execPostDisplay (s : State) : Host.Outcome State Fault Refusal :=
  .next (takeRequest Kind.postDisplay parseRelay (ownRelay Kind.postDisplay) s)

/-- POST_CONFIG (R187). -/
def execPostConfig (s : State) : Host.Outcome State Fault Refusal :=
  .next (takeRequest Kind.postConfig parseRelay (ownRelay Kind.postConfig) s)

/-- REFUSED_FRAME_KIND (R180 steps 1 and 2). -/
def execRefusedFrameKind (s : State) : Host.Outcome State Fault Refusal := .next (takeRefused s)

end Sys2Proof.Machine
end

