-- ==== Sys2Proof/Machine/Dispatch.lean ====
section
/-! DEFINITION. The dispatch: one arm per command. -/

namespace Sys2Proof.Machine

def exec (i : Instr) (s : State) : Host.Outcome State Fault Refusal :=
  match i with
  | .powerOn => Sys2Proof.Machine.execPowerOn s
  | .resetInput => Sys2Proof.Machine.execResetInput s
  | .tick => Sys2Proof.Machine.execTick s
  | .holdBegin => Sys2Proof.Machine.execHoldBegin s
  | .unserved => Sys2Proof.Machine.execUnserved s
  | .walkupExpired => Sys2Proof.Machine.execWalkupExpired s
  | .settleExpiry b => Sys2Proof.Machine.execSettleExpiry b s
  | .graceExpiry b => Sys2Proof.Machine.execGraceExpiry b s
  | .plugWaitExpiry b => Sys2Proof.Machine.execPlugWaitExpiry b s
  | .inrushExpiry b => Sys2Proof.Machine.execInrushExpiry b s
  | .windowEndExpiry b => Sys2Proof.Machine.execWindowEndExpiry b s
  | .overstayExpiry b => Sys2Proof.Machine.execOverstayExpiry b s
  | .silenceLimit b => Sys2Proof.Machine.execSilenceLimit b s
  | .scheduleSwitch => Sys2Proof.Machine.execScheduleSwitch s
  | .book => Sys2Proof.Machine.execBook s
  | .amend => Sys2Proof.Machine.execAmend s
  | .cancel => Sys2Proof.Machine.execCancel s
  | .entry => Sys2Proof.Machine.execEntry s
  | .walkup => Sys2Proof.Machine.execWalkup s
  | .walkupCancel => Sys2Proof.Machine.execWalkupCancel s
  | .queryBay => Sys2Proof.Machine.execQueryBay s
  | .queryReservation => Sys2Proof.Machine.execQueryReservation s
  | .queryPort => Sys2Proof.Machine.execQueryPort s
  | .queryPart => Sys2Proof.Machine.execQueryPart s
  | .loadBay => Sys2Proof.Machine.execLoadBay s
  | .loadClass => Sys2Proof.Machine.execLoadClass s
  | .loadPolicy => Sys2Proof.Machine.execLoadPolicy s
  | .loadPeriod => Sys2Proof.Machine.execLoadPeriod s
  | .commitSchedule => Sys2Proof.Machine.execCommitSchedule s
  | .setParam => Sys2Proof.Machine.execSetParam s
  | .clockSet => Sys2Proof.Machine.execClockSet s
  | .bayWithdraw => Sys2Proof.Machine.execBayWithdraw s
  | .bayRestore => Sys2Proof.Machine.execBayRestore s
  | .clearSuspect => Sys2Proof.Machine.execClearSuspect s
  | .checkProof => Sys2Proof.Machine.execCheckProof s
  | .bookClear => Sys2Proof.Machine.execBookClear s
  | .portClear => Sys2Proof.Machine.execPortClear s
  | .partReset => Sys2Proof.Machine.execPartReset s
  | .postDisplay => Sys2Proof.Machine.execPostDisplay s
  | .postConfig => Sys2Proof.Machine.execPostConfig s
  | .refusedFrameKind => Sys2Proof.Machine.execRefusedFrameKind s
  | .postStatus => Sys2Proof.Machine.execPostStatus s
  | .occupied => Sys2Proof.Machine.execOccupied s
  | .vacated => Sys2Proof.Machine.execVacated s
  | .plugged => Sys2Proof.Machine.execPlugged s
  | .unplugged => Sys2Proof.Machine.execUnplugged s
  | .chargeDone => Sys2Proof.Machine.execChargeDone s
  | .postFault => Sys2Proof.Machine.execPostFault s
  | .otherPostFrame => Sys2Proof.Machine.execOtherPostFrame s
  | .bFrameReceived w => Sys2Proof.Machine.execBFrameReceived w s
  | .sFrameReceived w => Sys2Proof.Machine.execSFrameReceived w s
  | .receiveError p e => Sys2Proof.Machine.execReceiveError p e s
  | .idleGap p => Sys2Proof.Machine.execIdleGap p s
  | .joinComplete p => Sys2Proof.Machine.execJoinComplete p s
  | .recoveryComplete p => Sys2Proof.Machine.execRecoveryComplete p s
  | .bSlotFill => Sys2Proof.Machine.execBSlotFill s
  | .sSlotFill => Sys2Proof.Machine.execSSlotFill s
  | .beginFrame p => Sys2Proof.Machine.execBeginFrame p s
  | .frameSent p => Sys2Proof.Machine.execFrameSent p s
  | .transmitError p e => Sys2Proof.Machine.execTransmitError p e s
  | .lostArbitration p => Sys2Proof.Machine.execLostArbitration p s

end Sys2Proof.Machine
end

