-- ==== Sys2Proof/Safety.lean ====
section
/-! DEFINITION. Safety: the terms that claims use. Two projections say what an event leaves alone, predicates say when a
request or an expiry is the one taken, and invariants say what every step keeps. -/

namespace Sys2Proof.Machine

/-! ### What an event on the level leaves alone -/

/-- What no event of the level writes: the command queue, the tables and settings, the clock, the schedule, the two links
and receive queues, the replies, and the map. Requests of management, the clock and the links write these. -/
structure Control where
  pending : List Instr
  classes : Vector (Option ClassEntry) Config.classes
  clock : Tick
  clockSet : Bool
  phase : Nat
  policy : Vector (Option PolicyEntry) Config.policyEntries
  active : Vector (Option Period) Config.periods
  staged : Vector (Option Period) Config.periods
  armed : Bool
  inForce : Option Period
  settings : Settings
  switchDue : Bool
  unservedDue : List Nat
  bLink : Link
  bQueue : List Frame
  bNextFill : Nat
  relay : List RelayFrame
  pointers : Nat × Nat × Nat × Nat
  outage : Bool
  sLink : Link
  sQueue : List Frame
  sSlots : Vector SSlot Config.sSlots
  sNextFill : Nat
  replies : List Reply
  resetPending : Bool
  maps : Vector (Option MapEntry) Config.bays
  deriving DecidableEq, Repr

def State.control (s : State) : Control where
  pending := s.pending
  classes := s.classes
  clock := s.clock
  clockSet := s.clockSet
  phase := s.phase
  policy := s.policy
  active := s.active
  staged := s.staged
  armed := s.armed
  inForce := s.inForce
  settings := s.settings
  switchDue := s.switchDue
  unservedDue := s.unservedDue
  bLink := s.bp.link
  bQueue := s.bp.rxq
  bNextFill := s.bp.nextFill
  relay := s.bp.relay
  pointers := (s.bp.powerPtr, s.bp.accessPtr, s.bp.lampPtr, s.bp.queryPtr)
  outage := s.bp.outage
  sLink := s.sp.link
  sQueue := s.sp.rxq
  sSlots := s.sp.slots
  sNextFill := s.sp.nextFill
  replies := s.sp.replies
  resetPending := s.sp.resetPending
  maps := s.bays.map Bay.map

/-- The book, the walk-up queue and the share unit's sets. -/
structure Level where
  book : List Reservation
  gens : Vector Nat Config.slots
  waiting : List Nat
  nextOrder : Nat
  walkups : List WalkEntry
  energised : List EnergisedEntry
  queues : Vector (List QueueEntry) Config.branches
  deriving DecidableEq, Repr

def State.level (s : State) : Level :=
  ⟨s.book, s.gens, s.waiting, s.nextOrder, s.walkups, s.energised, s.queues⟩

/-- The level once a record is closed (R45): out of the book and of the waiting-bay list, its slot's generation up by one,
from 127 to 0. -/
def State.levelWithout (s : State) (h : Nat) : Level :=
  { s.level with
    book := s.book.filter fun q => q.handle != h
    waiting := s.waiting.filter fun w => w != h
    gens := s.gens.setIfInBounds (slotOf h) ((s.genOf (slotOf h) + 1) % 128) }

/-- The book with one record changed. -/
def State.bookWith (s : State) (h : Nat) (f : Reservation → Reservation) : List Reservation :=
  s.book.map fun q => if q.handle = h then f q else q

/-- The notice queue once a notice of this body is queued now (R184). -/
def State.noticesWith (s : State) (body : NoticeBody) : List Notice := (s.sp.queueNotice s.clock body).notices

/-- A bay record without its LAMP mark: what an event that owes only lamp frames leaves of a bay it does not reach. -/
def Bay.sansLamp (x : Bay) : Bay := { x with lamp := false }

/-- Every bay but one is as it was, but for LAMP marks. -/
def State.OthersKept (s t : State) (b : Nat) : Prop := ∀ c, c ≠ b → (t.bay c).sansLamp = (s.bay c).sansLamp

/-- A bay record without its four owed marks. -/
def Bay.sansMarks (x : Bay) : Bay := { x with power := none, access := none, lamp := false, query := false }

/-! ### Which command is the one taken -/

/-- Request intake takes this frame next, and it reaches the rule of its kind with this tag: it stands at the head of the
receive queue, intake is open, and its source may make it (R180 steps 1 to 3). -/
structure State.Takes (s : State) (f : Frame) (rest : List Frame) (kind tag : Nat) : Prop where
  head : s.sp.rxq = f :: rest
  room : s.sp.replies.length < Config.replies
  noReset : s.sp.resetPending = false
  isKind : f.kind = kind
  hasTag : tagOf f.payload = some tag
  permitted : isManagementKind kind = true → f.source = s.settings.mgmtNode

/-- The reply that a request of this frame gets (R182), with the next `id`. -/
def Frame.reply (f : Frame) (id tag : Nat) (r : Result) (body : ReplyBody) : Reply :=
  ⟨id, f.source, tag, f.kind, r, body, 0⟩

/-- The state with the frame at the head of the S-port receive queue taken and its one reply at the tail of the reply queue
(R180, R182). -/
def State.answer (s : State) (f : Frame) (tag : Nat) (r : Result) (body : ReplyBody) : State :=
  { s with sp := { s.sp with
      rxq := s.sp.rxq.tail
      replies := s.sp.replies ++ [f.reply s.sp.nextId tag r body]
      nextId := s.sp.nextId + 1 } }

/-- The kind of the request that a request command takes (spec 11.4); none for every other command, and for the command
that takes the kinds that are no request. -/
def requestKind : Instr → Option Nat
  | .book => some Kind.book
  | .amend => some Kind.amend
  | .cancel => some Kind.cancel
  | .entry => some Kind.entry
  | .walkup => some Kind.walkup
  | .walkupCancel => some Kind.walkupCancel
  | .queryBay => some Kind.queryBay
  | .queryReservation => some Kind.queryReservation
  | .queryPort => some Kind.queryPort
  | .queryPart => some Kind.queryPart
  | .loadBay => some Kind.loadBay
  | .loadClass => some Kind.loadClass
  | .loadPolicy => some Kind.loadPolicy
  | .loadPeriod => some Kind.loadPeriod
  | .commitSchedule => some Kind.commitSchedule
  | .setParam => some Kind.setParam
  | .clockSet => some Kind.clockSet
  | .bayWithdraw => some Kind.bayWithdraw
  | .bayRestore => some Kind.bayRestore
  | .clearSuspect => some Kind.clearSuspect
  | .checkProof => some Kind.checkProof
  | .bookClear => some Kind.bookClear
  | .portClear => some Kind.portClear
  | .partReset => some Kind.partReset
  | .postDisplay => some Kind.postDisplay
  | .postConfig => some Kind.postConfig
  | .powerOn | .resetInput | .tick | .holdBegin | .unserved | .walkupExpired | .settleExpiry _ | .graceExpiry _
  | .plugWaitExpiry _ | .inrushExpiry _ | .windowEndExpiry _ | .overstayExpiry _ | .silenceLimit _
  | .scheduleSwitch | .refusedFrameKind | .postStatus | .occupied | .vacated | .plugged | .unplugged | .chargeDone
  | .postFault | .otherPostFrame | .bFrameReceived _ | .sFrameReceived _ | .receiveError _ _ | .idleGap _
  | .joinComplete _ | .recoveryComplete _ | .bSlotFill | .sSlotFill | .beginFrame _ | .frameSent _
  | .transmitError _ _ | .lostArbitration _ => none

/-- A frame of a post of bay `b` stands at the head of the B-port receive queue (R174). -/
structure State.Hears (s : State) (f : Frame) (rest : List Frame) (b : Nat) : Prop where
  head : s.bp.rxq = f :: rest
  mapped : s.bayOfPost f.source = some b

/-- Bay `b` is the lowest whose timer has reached its deadline, and its purpose is `p` (R33). -/
structure State.Expires (s : State) (b : Nat) (p : Purpose) : Prop where
  bay : b < Config.bays
  first : s.dueTimer = some b
  purpose : (s.bay b).timer.purpose? = some p

/-- No deadline that has been reached is still to be taken. -/
def State.NothingDue (s : State) : Prop := catchStep s = none

/-- Nobody waits for a bay. -/
def State.NobodyWaits (s : State) : Prop := s.waiting = [] ∧ s.walkups = []

/-- Every start queue is empty. -/
def State.QueuesEmpty (s : State) : Prop := ∀ br, s.queue br = []

/-- The timer that arming a purpose gives: frozen with the full duration while the B-port is OFF or RECOVERING, when the
purpose freezes and its deadline lies ahead (R32, R36). -/
def State.armed? (s : State) (p : Purpose) (deadline : Tick) : Timer :=
  if p.freezes && s.portDown && decide (1 ≤ diff deadline s.clock) then .frozen (diff deadline s.clock).toNat p
  else .running deadline p

/-! ### What an event still brings about -/

/-- An event carried to its end: the expiries it made due, then the rescan it called for, then the release service of each
bay it freed, are taken one after another (R32, R88, R136). -/
def State.finished (s : State) (w : Work) : State := finish finishFuel { s with work := w }

/-- The event calls for a rescan of the start queues (R136). -/
def Work.rescans : Work := ⟨[], true, []⟩

/-! ### A reseat in one piece (R86) -/

/-- The bay that a reseat off bay `b` places a record on: none once it has been reseated three times, and else the one
that selection gives. -/
def State.reseatBay (s : State) (r : Reservation) (b : Nat) : Option Nat :=
  if Config.reseats ≤ r.reseats then none else s.select r (some b)

/-- The record's reseat count after a reseat. -/
def Reservation.reseatCount (r : Reservation) : Nat := if Config.reseats ≤ r.reseats then r.reseats else r.reseats + 1

/-- A record as it is placed on a bay now (R82). -/
def Reservation.heldOn (r : Reservation) (c : Nat) (now : Tick) : Reservation :=
  { r with
    bay := some c
    state := .held
    captures := { r.captures with heldAt := some (r.captures.heldAt.getD now), seatedAt := none } }

/-- The level once a record has been reseated off bay `b`: HELD on the new bay and out of the waiting-bay list, or
WAITING_BAY with no bay at its place in the list. -/
def State.levelReseated (s : State) (r : Reservation) (b : Nat) : Level :=
  match s.reseatBay r b with
  | some c => { s.level with
      book := s.bookWith r.handle fun q => { q.heldOn c s.clock with reseats := r.reseatCount }
      waiting := s.waiting.filter fun w => w != r.handle }
  | none => { s.level with
      book := s.bookWith r.handle fun q => { q with state := .waitingBay, bay := none, reseats := r.reseatCount }
      waiting := s.waitInsert r s.waiting }

/-- The one notice of a reseat: RESEATED, or HOLD_WAITING with its cause. -/
def State.reseatNotice (s : State) (r : Reservation) (b : Nat) : NoticeBody :=
  match s.reseatBay r b with
  | some c => .reseated r.handle r.token r.cls c r.start (s.graceOf r) r.arrived
  | none => .holdWaiting r.handle r.token r.cls r.start r.reseatCount
      (if Config.reseats ≤ r.reseats then .reseatLimit else .noBay)

/-- A FREE bay once a record has been placed on it, its grace still ahead (R82). -/
def State.bayHeldFor (s : State) (c : Nat) (r : Reservation) : Bay :=
  { s.bay c with
    holder := some r.handle
    state := .held
    occupant := none
    timer := s.armed? .grace (s.graceOf r)
    lamp := true }

/-- A HELD bay once it has been released (R60, R108). -/
def State.bayFreed (s : State) (b : Nat) : Bay :=
  { s.bay b with timer := .none, holder := none, occupant := none, state := .free, lamp := true }

/-- Every bay but `b` is as it was, but for LAMP marks, and but for the bay the record was reseated to, which is HELD for
it. -/
def State.OthersReseated (s t : State) (r : Reservation) (b : Nat) : Prop :=
  ∀ d, d ≠ b → if s.reseatBay r b = some d then t.bay d = s.bayHeldFor d r
    else (t.bay d).sansLamp = (s.bay d).sansLamp

/-- The walk-up record that a walk-up or a drive-in is given on a bay now (R113), in the state it is made in. -/
def State.walkupRecord (s : State) (slot token b stay : Nat) (st : ResState) (k : Captures) : Reservation :=
  let c := s.bayClass b
  let n := min stay (saturate (s.freeRun? b none) - c.turnover)
  { handle := s.genOf slot * 512 + slot, token := token, cls := (s.bay b).cls, bay := some b, tier := .walkup,
    start := s.clock, length := n, holdBegin := minusTicks s.clock c.lead, endTick := plusTicks s.clock n,
    intervalEnd := plusTicks (plusTicks s.clock n) c.turnover, order := s.nextOrder, state := st, arrived := true,
    overstay := false, interrupted := false, reseats := 0, captures := k, energy := none, sessions := 0 }

/-! ### The S-port as entry to CAUTION leaves it (R183) -/

/-- The slot is PENDING with a notice. -/
def SSlot.awaits (id : Nat) : SSlot → Bool
  | .pending g => g.item == .notice id
  | _ => false

/-- The port with every PENDING notice slot emptied, its notice back at segment 0 where it stood in the queue. -/
def SPort.noticesReturned (p : SPort) : SPort := { p with
  slots := p.slots.map fun x => match x with
    | .pending g => if g.item.isNotice = true then .empty .aborted else .pending g
    | x => x
  notices := p.notices.map fun n => if p.slots.toList.any (SSlot.awaits n.id) = true then { n with sent := 0 } else n }

/-! ### A change of budgets in one piece (R129) -/

/-- No window end is passed at `now` on an energised bay, and every bay that is energised or waits for power has a valid class:
a change of budgets then leaves nothing of a bay's own to be taken at once (R129, R141 step 3, R138). -/
structure State.Sharing (s : State) (now : Tick) : Prop where
  ahead : ∀ e ∈ s.energised, ∀ r, s.holderRec e.bay = some r → 0 < diff r.endTick now
  classes : ∀ b < Config.bays, (s.bay b).state.energised = true ∨ (s.bay b).state = .waitingPower →
    (s.bayClass b).inRange = true

/-! ### Invariants -/

/-- What R161 and R162 bound in one port: a JOINING, ACTIVE or CAUTION port has a transmit count below 224. -/
structure Link.Inv (l : Link) : Prop where
  tx : l.tx ≤ 255
  rx : l.rx ≤ 255
  below : l.state = .joining ∨ l.state.sends = true → l.tx < 224

/-- The ports' counts and queues stay within their capacities, and every reply and notice has an `id` that was taken
before. -/
structure State.PortsInv (s : State) : Prop where
  bLink : s.bp.link.Inv
  sLink : s.sp.link.Inv
  bQueue : s.bp.rxq.length ≤ Config.receive
  sQueue : s.sp.rxq.length ≤ Config.receive
  replies : s.sp.replies.length ≤ Config.replies
  notices : s.sp.notices.length ≤ Config.notices
  relay : s.bp.relay.length ≤ Config.relay
  replyIds : ∀ r ∈ s.sp.replies, r.id < s.sp.nextId
  noticeIds : ∀ n ∈ s.sp.notices, n.id < s.sp.nextId

/-- Every setting lies in the range of R189. -/
structure Settings.InRange (t : Settings) : Prop where
  horizon : 360 ≤ t.horizon ∧ t.horizon ≤ 30240
  maxLength : 6 ≤ t.maxLength ∧ t.maxLength ≤ 65535
  statusPeriod : 1 ≤ t.statusPeriod ∧ t.statusPeriod ≤ 30
  silencePeriods : 2 ≤ t.silencePeriods ∧ t.silencePeriods ≤ 10
  sensorTolerance : 1 ≤ t.sensorTolerance ∧ t.sensorTolerance ≤ 60
  relayDivisor : t.relayDivisor ≤ 16
  walkupPatience : 6 ≤ t.walkupPatience ∧ t.walkupPatience ≤ 360
  walkupStay : 6 ≤ t.walkupStay ∧ t.walkupStay ≤ 4320
  mgmtNode : 1 ≤ t.mgmtNode ∧ t.mgmtNode ≤ 254
  partAddress : 1 ≤ t.partAddress ∧ t.partAddress ≤ 254

/-- The tables that requests load hold what their rules accept: the settings (R189), the day phase (R24), every valid
class entry (R5). -/
structure State.TablesInv (s : State) : Prop where
  settings : s.settings.InRange
  phase : s.phase < Config.phases
  classes : ∀ c e, s.cls c = some e → e.inRange = true

/-- No two live records stand in one slot of the book (R41), so no two have one handle and at most 512 are live; the walk-up
queue holds at most 32 entries (R110); and no event is left half finished. -/
structure State.LevelInv (s : State) : Prop where
  slots : (s.book.map fun r => slotOf r.handle).Nodup
  walkups : s.walkups.length ≤ Config.walkups
  work : s.work = Work.none

/-- Every branch floor sum is at or below its branch budget in force, and the level floor sum at or below the level budget
(R141). -/
def State.FloorsFit (s : State) : Prop :=
  (∀ br < Config.branches, s.floorSum br ≤ s.branchBudget br) ∧ s.levelFloorSum ≤ s.levelBudget

/-- The states in which a purpose runs (R31, R82, R92, R94, R99, R103, R107, R138, R140). -/
def Purpose.fits : Purpose → BayState → Bool
  | .settle, x => x == .clearing
  | .grace, x => x == .held
  | .plugWait, x => x == .occupied
  | .inrush, x => x == .starting
  | .windowEnd, x => x == .occupied || x == .waitingPower || x == .charging || x == .parked
  | .overstay, x => x == .parked

/-- The purpose of a timer, running or frozen. -/
def Timer.held? : Timer → Option Purpose
  | .none => Option.none
  | .running _ p => Option.some p
  | .frozen _ p => Option.some p

/-- What the share unit keeps: the energised set is the STARTING and CHARGING bays (R130), the start queues are the
WAITING_POWER bays, each in the queue of its branch and at most 32 in one (R132), the floors fit the budgets (R141), and
every bay's recorded ceiling is the one that the two stages work out for it, 0 when it is not energised (R144). With it goes
what the bays and the schedule owe it: a bay's branch is 0..7, a timer's purpose fits the state, a HELD record is the holder
of a HELD bay, the period in force is one of the active copy, and no two periods of a copy start at one phase. -/
structure State.ShareInv (s : State) : Prop where
  level : s.LevelInv
  tables : s.TablesInv
  branches : ∀ b < Config.bays, (s.bay b).branch < Config.branches
  timers : ∀ b < Config.bays, ∀ p, (s.bay b).timer.held? = some p → p.fits (s.bay b).state = true
  held : ∀ r ∈ s.book, ∀ b, r.state = .held → r.bay = some b →
    (s.bay b).state = .held ∧ (s.bay b).holder = some r.handle
  entries : ∀ e ∈ s.energised, e.bay < Config.bays ∧ e.branch = (s.bay e.bay).branch ∧ e.floor ≤ e.draw
    ∧ (s.bay e.bay).state.energised = true
  energised : ∀ b < Config.bays, (s.bay b).state.energised = true → ∃ e ∈ s.energised, e.bay = b
  distinct : (s.energised.map EnergisedEntry.bay).Nodup
  queued : ∀ br < Config.branches, (s.queue br).length ≤ Config.startQueue
    ∧ ((s.queue br).map QueueEntry.bay).Nodup
    ∧ ∀ q ∈ s.queue br, q.bay < Config.bays ∧ (s.bay q.bay).branch = br ∧ (s.bay q.bay).state = .waitingPower
  waiting : ∀ b < Config.bays, (s.bay b).state = .waitingPower → ∃ q ∈ s.queue (s.bay b).branch, q.bay = b
  floors : s.FloorsFit
  ceilings : ∀ b < Config.bays, (s.bay b).ceiling = (s.ceilings.lookup b).getD 0
  inForce : ∀ p, s.inForce = some p → p ∈ periodsOf s.active
  activePhases : ((periodsOf s.active).map Period.start).Nodup
  stagedPhases : ((periodsOf s.staged).map Period.start).Nodup

end Sys2Proof.Machine
end

