-- ==== Sys2Proof/Certificates/Slice0/Obligations.lean ====
section
/-! DEFINITION. The statements for the provers. -/

open Sys2Proof Sys2Proof.Machine

/-! ### The block as a whole -/

/-- A step runs the command at the front of the queue on the state with the queue's rest, and nothing else; with no command
waiting the block idles (the model's own choice, notes/assumptions/1). -/
def Obligations.StepRunsTheFrontCommand : Prop :=
  (∀ (c : Instr) (rest : List Instr) (s : State),
    step { s with pending := c :: rest } = exec c { s with pending := rest })
  ∧ ∀ s : State, s.pending = [] → step s = .next s

/-- POWER_ON and RESET_INPUT give the full reset of R195: every block at the values that the rule's table gathers,
whatever the state before, and the commands that wait outside the part untouched. The waiting commands are the model's
own (notes/assumptions/34). -/
def Obligations.FullResetReturnsEveryBlock : Prop :=
  ∀ (c : Instr) (s : State), c = .powerOn ∨ c = .resetInput →
    ∃ t, exec c s = .next t ∧ t.pending = s.pending
      ∧ (∀ b < 128, (t.bay b).map = none ∧ (t.bay b).state = .out ∧ (t.bay b).occupant = none
          ∧ (t.bay b).holder = none ∧ (t.bay b).timer = .none ∧ (t.bay b).ceiling = 0
          ∧ (t.bay b).power = none ∧ (t.bay b).access = none ∧ (t.bay b).lamp = false ∧ (t.bay b).query = false
          ∧ (t.bay b).strikes = 0 ∧ (t.bay b).disagree = 0 ∧ (t.bay b).silence = 0 ∧ (t.bay b).relayCount = 0
          ∧ (t.bay b).status = none ∧ (t.bay b).statusTick = none ∧ (t.bay b).proof = false
          ∧ (t.bay b).reconcile = false)
      ∧ (∀ n, t.cls n = none) ∧ (∀ e ∈ t.policy.toList, e = none)
      ∧ t.clock = 0 ∧ t.phase = 0 ∧ t.clockSet = false
      ∧ t.book = [] ∧ (∀ g ∈ t.gens.toList, g = 0) ∧ t.waiting = [] ∧ t.walkups = []
      ∧ periodsOf t.active = [] ∧ periodsOf t.staged = [] ∧ t.armed = false ∧ t.energised = [] ∧ t.QueuesEmpty
      ∧ t.levelBudget = 0 ∧ (∀ br, t.branchBudget br = 0)
      ∧ t.bp.link = ⟨.joining, 0, 0, none, 0, false⟩ ∧ t.bp.rxq = [] ∧ t.bp.relay = []
      ∧ (∀ x ∈ t.bp.slots.toList, x = .empty .none) ∧ t.bp.outage = false
      ∧ (∀ fam, t.bp.pointer fam = 127)
      ∧ t.sp.link = ⟨.joining, 0, 0, none, 0, false⟩ ∧ t.sp.rxq = [] ∧ t.sp.replies = [] ∧ t.sp.notices = []
      ∧ (∀ x ∈ t.sp.slots.toList, x = .empty .none) ∧ t.sp.gapPending = false ∧ t.sp.resetPending = false
      ∧ t.settings = {
          horizon := 8640, maxLength := 4320, statusPeriod := 3, silencePeriods := 3, sensorTolerance := 6,
          relayDivisor := 0, bRxMode := .keepOldest, sRxMode := .keepOldest, bTxOrder := .priority,
          bRecovery := .auto, policyDefault := .accept, walkupPatience := 90, walkupStay := 720, mgmtNode := 1,
          partAddress := 240 }

/-- Each table, setting and clock is written by its own commands alone. With no full reset in the step (no POWER_ON, no
RESET_INPUT, and no PART_RESET pending), the class table changes only through LOAD_CLASS, the policy table through
LOAD_POLICY, the staged schedule through LOAD_PERIOD, the settings through SET_PARAM, the map through LOAD_BAY, the clock
and the phase through TICK and CLOCK_SET, and the SET flag through CLOCK_SET; the waiting commands are never touched. -/
def Obligations.EachTableHasItsOwnCommands : Prop :=
  ∀ (c : Instr) (s t : State), c ≠ .powerOn → c ≠ .resetInput → s.sp.resetPending = false → exec c s = .next t →
    t.pending = s.pending
      ∧ (c ≠ .loadClass → t.classes = s.classes)
      ∧ (c ≠ .loadPolicy → t.policy = s.policy)
      ∧ (c ≠ .loadPeriod → t.staged = s.staged)
      ∧ (c ≠ .setParam → t.settings = s.settings)
      ∧ (c ≠ .loadBay → ∀ b, (t.bay b).map = (s.bay b).map)
      ∧ (c ≠ .tick → c ≠ .clockSet → t.clock = s.clock ∧ t.phase = s.phase)
      ∧ (c ≠ .clockSet → t.clockSet = s.clockSet)

/-! ### Invariants that every step keeps -/

/-- Every step keeps the ports within their capacities: counts of 0..255, a transmit count below 224 while the port sends,
receive queues of 16, 4 replies, 32 notices and 8 relay frames. -/
def Obligations.StepKeepsThePorts : Prop :=
  ∀ s t : State, s.PortsInv → step s = .next t → t.PortsInv

/-- Every step keeps the settings in the ranges of R189, the day phase below 8,640 and every valid class entry in the ranges
of R5. -/
def Obligations.StepKeepsTheTables : Prop :=
  ∀ s t : State, s.TablesInv → step s = .next t → t.TablesInv

/-- Every step keeps the live records in slots of their own, the walk-up queue within its 32 places, and leaves no event half
finished. -/
def Obligations.StepKeepsTheBook : Prop :=
  ∀ s t : State, s.LevelInv → step s = .next t → t.LevelInv

/-- The four invariants, and the floors within their budgets, hold after a full reset. -/
def Obligations.ResetMeetsTheInvariants : Prop :=
  State.reset.PortsInv ∧ State.reset.TablesInv ∧ State.reset.LevelInv ∧ State.reset.FloorsFit
    ∧ State.reset.ShareInv

/-! ### Modular time, the compare and the shared arithmetic -/

/-- The modular difference of R29: worked from the remainder modulo 1,048,576, between -524,288 and 524,287, antisymmetric
but at 524,288 apart, where both directions read -524,288; and sums and differences are worked modulo 1,048,576. -/
def Obligations.ModularDifference : Prop :=
  ∀ a b : Tick,
    (let raw := (a.toNat + (1048576 - b.toNat)) % 1048576
     diff a b = if raw < 524288 then (raw : Int) else (raw : Int) - 1048576)
    ∧ -524288 ≤ diff a b ∧ diff a b ≤ 524287
    ∧ (if (a.toNat + (1048576 - b.toNat)) % 1048576 = 524288 then diff a b = -524288 ∧ diff b a = -524288
       else diff b a = -diff a b)
    ∧ (∀ n, (plusTicks a n).toNat = (a.toNat + n) % 1048576)
    ∧ (∀ n, ((minusTicks a n).toNat + n) % 1048576 = a.toNat)

/-- The compare of R73 and the conditions of R74. For any two 16-bit values the results D, Z, S, C, V and T are worked as R73
says, and S is the true sign of the signed difference exactly when V is false. Each condition is worked from them as R74's
table says; each unsigned one gives the answer of the true unsigned comparison and each signed one that of the true signed
comparison, and the two kinds differ only when exactly one value is 32,768 or more; ANY and NONE read the shared members,
ALWAYS holds, and with a constant of 0 ANY is false and NONE true. -/
def Obligations.ConditionsAreTheTrueComparisons : Prop :=
  (∀ f k : Nat, f < 65536 → k < 65536 →
    let sf : Int := (BitVec.ofNat 16 f).toInt
    let sk : Int := (BitVec.ofNat 16 k).toInt
    (cmpD f k < 65536 ∧ (cmpD f k + k) % 65536 = f)
    ∧ (cmpZ f k = true ↔ cmpD f k = 0) ∧ (cmpS f k = true ↔ 32768 ≤ cmpD f k) ∧ (cmpC f k = true ↔ f < k)
    ∧ (cmpV f k = true ↔ sf - sk < -32768 ∨ 32767 < sf - sk)
    ∧ (∀ i, (cmpT f k).testBit i = (f.testBit i && k.testBit i))
    ∧ (if cmpV f k = true then (cmpS f k = true ↔ 0 ≤ sf - sk) else (cmpS f k = true ↔ sf - sk < 0))
    ∧ (Condition.eq.holds f k = cmpZ f k ∧ Condition.ne.holds f k = !cmpZ f k ∧ Condition.ult.holds f k = cmpC f k
      ∧ Condition.uge.holds f k = !cmpC f k ∧ Condition.ugt.holds f k = (!cmpC f k && !cmpZ f k)
      ∧ Condition.ule.holds f k = (cmpC f k || cmpZ f k) ∧ Condition.lt.holds f k = (cmpS f k != cmpV f k)
      ∧ Condition.ge.holds f k = (cmpS f k == cmpV f k)
      ∧ Condition.gt.holds f k = (!cmpZ f k && cmpS f k == cmpV f k)
      ∧ Condition.le.holds f k = (cmpZ f k || cmpS f k != cmpV f k)
      ∧ (Condition.any.holds f k = true ↔ cmpT f k ≠ 0) ∧ (Condition.none.holds f k = true ↔ cmpT f k = 0))
    ∧ (Condition.eq.holds f k = true ↔ f = k) ∧ (Condition.ne.holds f k = true ↔ f ≠ k)
    ∧ (Condition.ult.holds f k = true ↔ f < k) ∧ (Condition.uge.holds f k = true ↔ k ≤ f)
    ∧ (Condition.ugt.holds f k = true ↔ k < f) ∧ (Condition.ule.holds f k = true ↔ f ≤ k)
    ∧ (Condition.lt.holds f k = true ↔ sf < sk) ∧ (Condition.ge.holds f k = true ↔ sk ≤ sf)
    ∧ (Condition.gt.holds f k = true ↔ sk < sf) ∧ (Condition.le.holds f k = true ↔ sf ≤ sk)
    ∧ ((32768 ≤ f ↔ 32768 ≤ k) →
      Condition.lt.holds f k = Condition.ult.holds f k ∧ Condition.ge.holds f k = Condition.uge.holds f k
      ∧ Condition.gt.holds f k = Condition.ugt.holds f k ∧ Condition.le.holds f k = Condition.ule.holds f k)
    ∧ (Condition.any.holds f k = true ↔ ∃ i, f.testBit i = true ∧ k.testBit i = true)
    ∧ (Condition.none.holds f k = true ↔ ∀ i, ¬ (f.testBit i = true ∧ k.testBit i = true))
    ∧ Condition.always.holds f k = true)
  ∧ ∀ f : Nat, Condition.any.holds f 0 = false ∧ Condition.none.holds f 0 = true

/-- The walk of the policy table (R75 to R80) from any entry on. Entries that are invalid or whose condition does not hold
are passed over. The first entry that holds decides by its action: ACCEPT and REFUSE end the walk with its index,
CLAMP_LENGTH lowers the length, SET_TIER writes the tier of a BOOK alone, and SKIP passes over as many entries as its
argument says, and the walk goes on. When no entry holds, policy_default gives the verdict. The length never grows. -/
def Obligations.PolicyWalkTakesTheFirstEntryThatHolds : Prop :=
  ∀ (q : PolicyRequest) (dflt : PolicyDefault) (i length tier : Nat) (pre : List (Option PolicyEntry)),
    (∀ e, some e ∈ pre → e.condition.holds (q.value length tier e.field) e.constant = false) →
    walkPolicy q dflt i 0 length tier pre
      = ⟨(match dflt with | .accept => none | .refuse => some 0), none, length, tier⟩
    ∧ ∀ (e : PolicyEntry) (post : List (Option PolicyEntry)),
      (walkPolicy q dflt i 0 length tier (pre ++ some e :: post)).length ≤ length
      ∧ (e.condition.holds (q.value length tier e.field) e.constant = true →
        walkPolicy q dflt i 0 length tier (pre ++ some e :: post) =
          let n := i + pre.length
          match e.action with
          | .accept => ⟨none, some n, length, tier⟩
          | .refuse => ⟨some e.argument, some n, length, tier⟩
          | .clampLength => walkPolicy q dflt (n + 1) 0 (min length e.argument) tier post
          | .setTier => walkPolicy q dflt (n + 1) 0 length (if q.source = 1 then e.argument else tier) post
          | .skip => walkPolicy q dflt (n + 1 + e.argument) 0 length tier (post.drop e.argument))

/-- Both stages of the share computation (R142, R143) divide exactly. Given members whose floors are at most their caps and
a total at or above the sum of the floors: everyone gets a share between its floor and its cap, everyone gets its cap when
the caps fit, and otherwise the shares sum to exactly the total. -/
def Obligations.DivideHandsOutTheTotal : Prop :=
  ∀ (total : Nat) (xs : List (Nat × Nat)), (∀ x ∈ xs, x.1 ≤ x.2) → (xs.map Prod.fst).sum ≤ total →
    (divide total xs).length = xs.length
    ∧ (∀ i (h : i < xs.length), ∃ c, (divide total xs)[i]? = some c ∧ xs[i].1 ≤ c ∧ c ≤ xs[i].2)
    ∧ ((xs.map Prod.snd).sum ≤ total → divide total xs = xs.map Prod.snd)
    ∧ (total ≤ (xs.map Prod.snd).sum → (divide total xs).sum = total)

/-- The peak of the class count (R55) is the greatest count over the span: it bounds the count at every tick of the span,
and some tick of the span reaches it. The records' intervals are not empty and shorter than half the clock. -/
def Obligations.PeakIsTheGreatestCount : Prop :=
  ∀ (rs : List Reservation) (now lo hi : Tick),
    (∀ r ∈ rs, 0 < diff r.intervalEnd r.holdBegin) →
    let s := if atOrAfter lo now then lo else now
    (isBefore s hi = true → ∀ t, inInterval t s hi = true → countAt rs t ≤ peak rs now lo hi)
    ∧ (isBefore s hi = true → ∃ t, inInterval t s hi = true ∧ countAt rs t = peak rs now lo hi)
    ∧ (atOrAfter s hi = true → peak rs now lo hi = 0)

/-- Selection (R83). A candidate is a loaded FREE bay of the record's class, other than the one it is leaving, whose free run
(the record itself left out) covers the need. Selection hands back a candidate, and no candidate has a smaller free run, nor
an equal one on a branch with a lower floor sum, nor both equal and a lower number; it hands back none exactly when there is
no candidate. -/
def Obligations.SelectionTakesTheTightestBay : Prop :=
  ∀ (s : State) (r : Reservation) (leaving : Option Nat),
    let run b := saturate (s.freeRun? b (some r.handle))
    let sum b := s.floorSum (s.bay b).branch
    let candidate b := b < 128 ∧ (s.bay b).loaded = true ∧ (s.bay b).state = .free ∧ (s.bay b).cls = r.cls
      ∧ some b ≠ leaving
      ∧ ∀ n, s.freeRun? b (some r.handle) = some n → diff r.intervalEnd s.clock ≤ (n : Int)
    (∀ b, s.select r leaving = some b → candidate b
      ∧ ∀ c, candidate c → run b < run c ∨ (run b = run c ∧ (sum b < sum c ∨ (sum b = sum c ∧ b ≤ c))))
    ∧ (s.select r leaving = none ↔ ∀ c, ¬ candidate c)

/-! ### The share unit -/

/-- After a recompute every branch floor sum is at or below its branch budget and the level floor sum at or below the level
budget, whatever the state before: the pauses of R141 see to it. What one pause does: when the floors of all but the last
entry in start order fit and its own do not, the bay leaves the energised set with ceiling 0 and DEENERGISE PAUSED owed
and goes WAITING_POWER with WINDOW_END at its record's end; its record goes SEATED, the bay joins its start queue at the
place of its start tick, and SESSION_PAUSED is queued with the budget that was over and the bay's position. Its end lies
ahead and its queue has a place. -/
def Obligations.RecomputeBringsTheFloorsWithinTheBudgets : Prop :=
  (∀ s : State, (recompute s).FloorsFit)
  ∧ ∀ (s : State) (before : List EnergisedEntry) (e : EnergisedEntry) (h : Nat) (r : Reservation),
    s.energised = before ++ [e] → ({ s with energised := before } : State).FloorsFit → ¬ s.FloorsFit → s.PortsInv →
    (∀ x ∈ before, x.bay ≠ e.bay) → e.bay < 128 → e.branch < 8 → (s.queue e.branch).length < 32 →
    (s.bay e.bay).holder = some h → s.find h = some r → 0 < diff r.endTick s.clock →
    let t := recompute s
    t.control = s.control
      ∧ t.level = { s.level with
          energised := before
          book := s.bookWith h fun q => { q with state := .seated }
          queues := s.queues.setIfInBounds e.branch
            (insertBy queueBefore ⟨e.bay, some e.start⟩ (s.queue e.branch)) }
      ∧ (t.bay e.bay).sansLamp = ({ s.bay e.bay with
          state := .waitingPower
          ceiling := 0
          power := some (.deenergise .paused)
          timer := .running r.endTick .windowEnd } : Bay).sansLamp
      ∧ (∀ c, c ≠ e.bay → (t.bay c).sansMarks = ({ s.bay c with ceiling := (t.bay c).ceiling } : Bay).sansMarks)
      ∧ t.sp.notices = s.noticesWith (.sessionPaused h e.bay e.branch
          (if s.branchBudget e.branch < s.floorSum e.branch then .branchBudget else .levelBudget)
          (t.queuePosition e.branch e.bay))

/-- Every step keeps the energised set equal to the STARTING and CHARGING bays, the start queues equal to the WAITING_POWER
bays, the floors within the budgets, and every bay's recorded ceiling equal to the one the two stages work out (R130, R132,
R141, R144). The ceilings that the two stages work out keep every limit: with the floors within the budgets and every floor
at most its draw, the ceilings of a branch sum to at most its budget, those of the level to at most the level budget, and
each energised bay of branches 0..7 is given one between its floor and its draw. A recompute records them on the bays, and
owes SET_CEILING, merged with the mark there is, for each that differs from the recorded one, and for no other bay. -/
def Obligations.CeilingsStayWithinTheBudgets : Prop :=
  (∀ s t : State, s.ShareInv → step s = .next t → t.ShareInv)
  ∧ (∀ s : State, s.FloorsFit → (∀ e ∈ s.energised, e.floor ≤ e.draw ∧ e.branch < 8) →
    (∀ br < 8, ((s.branchCeilings br).map Prod.snd).sum ≤ s.branchBudget br)
    ∧ (s.ceilings.map Prod.snd).sum ≤ s.levelBudget
    ∧ ∀ e ∈ s.energised, ∃ c, (e.bay, c) ∈ s.ceilings ∧ e.floor ≤ c ∧ c ≤ e.draw)
  ∧ (∀ s : State, (s.energised.map EnergisedEntry.bay).Nodup → (∀ e ∈ s.energised, e.bay < 128) →
    ∀ x ∈ (recompute s).ceilings, ((recompute s).bay x.1).ceiling = x.2)
  ∧ ∀ s : State, s.FloorsFit → (s.energised.map EnergisedEntry.bay).Nodup → (∀ e ∈ s.energised, e.bay < 128) →
    (∀ x ∈ s.ceilings, s.slotHolds .power x.1 = false →
      (recompute s).bay x.1 = if (s.bay x.1).ceiling = x.2 then s.bay x.1
        else { s.bay x.1 with
          ceiling := x.2
          power := some (match (s.bay x.1).power with | none => .setCeiling | some o => mergePower o .setCeiling) })
    ∧ ∀ b, (∀ x ∈ s.ceilings, x.1 ≠ b) → (recompute s).bay b = s.bay b

/-! ### The level clock and the expiries -/

/-- TICK (R23, R24): in every state the count goes up by one modulo 1,048,576 and the phase by one modulo 8,640, whether
the flag is SET or not. When nothing is left to be taken the tick does exactly this besides: it advances the silence ticks of
every loaded bay in service and not SUSPECT, while the B-port sends, held at 300 (R151), it notes which waiting records are
past their grace, and it hands the new phase to the share unit. At a start phase of the active copy with a commit armed the
switch is then due. Otherwise the period in force is the one of the new phase (R125), and when that is another one the change
of budgets follows (R129): the shares are recomputed and the start queues rescanned, here with the share unit's sets true,
and the end of every energised bay's record still ahead. The expiries are left to their own commands, what the tick found is
kept in the model's own markers, the period is worked before them, a period is told from another by its start phase, a
boundary reached again after a slew counts as any other, and no silence limit is compared while the port does not send
(notes/assumptions/9, 11, 16, 30, 53, 56); a time exactly half the clock away reads as not reached (notes/assumptions/44). -/
def Obligations.TickAdvancesTheClock : Prop :=
  (∀ s : State, ∃ t, exec .tick s = .next t ∧ t.clock.toNat = (s.clock.toNat + 1) % 1048576
      ∧ t.phase = (s.phase + 1) % 8640 ∧ t.clockSet = s.clockSet)
  ∧ ∀ s : State, s.NothingDue → s.work = Work.none →
      let boundary := s.armed = true ∧ ∃ p ∈ periodsOf s.active, p.start = (s.phase + 1) % 8640
      let new := periodAt s.active ((s.phase + 1) % 8640)
      let u : State := { s with
        clock := s.clock + 1
        phase := (s.phase + 1) % 8640
        unservedDue := s.waiting.filter fun h => match s.find h with
          | some r => decide (r.state = .waitingBay)
              && decide (0 ≤ diff (s.clock + 1) (plusTicks r.start (s.classOf r.cls).grace))
          | none => false
        bays := s.bays.map fun x =>
          if (s.bp.link.state = .active ∨ s.bp.link.state = .caution) ∧ x.loaded = true ∧ x.state ≠ .out
              ∧ x.state ≠ .suspect then
            { x with
              silence := min 300 (x.silence + 1)
              silenceDue := decide (s.settings.silencePeriods * s.settings.statusPeriod ≤ min 300 (x.silence + 1)) }
          else x }
      (boundary → exec .tick s = .next { u with switchDue := true })
      ∧ (¬ boundary → new.map Period.start = s.inForce.map Period.start → exec .tick s = .next { u with inForce := new })
      ∧ (¬ boundary → new.map Period.start ≠ s.inForce.map Period.start → s.ShareInv → s.Sharing (s.clock + 1) →
        exec .tick s = .next ((recompute { u with inForce := new }).finished Work.rescans))

/-- HOLD_BEGIN (R84) of the first BOOKED record in book order whose hold-begin is reached. Bound to a FREE bay, or
class-bound with selection giving one, it is placed there (R82): HELD, held_at captured if absent, the bay HELD for it
with no occupant and GRACE armed, LAMP owed, HOLD_BEGUN queued. Class-bound with no candidate, it goes WAITING_BAY
(R85): its binding goes, it joins the waiting-bay list and HOLD_WAITING is queued with cause NO_BAY. Bound to a bay that
is not FREE, it is reseated off it (R86): at its third reseat it waits with cause RESEAT_LIMIT; before that its count goes
up by one, and it is placed on the bay that selection gives, with RESEATED, or waits with cause NO_BAY. The grace deadline
still lies ahead. That a placing drops a seated_at is deduced (notes/assumptions/25), and a hold-begin exactly half the clock
away reads as not reached (notes/assumptions/44). -/
def Obligations.HoldBegins : Prop :=
  ∀ (s : State) (r : Reservation), s.LevelInv →
    s.book.find? (fun q => decide (q.state = .booked) && decide (0 ≤ diff s.clock q.holdBegin)) = some r →
    0 < diff (plusTicks r.start (s.classOf r.cls).grace) s.clock →
    (∀ b, (r.bay = some b ∧ b < 128 ∧ (s.bay b).state = .free) ∨ (r.bay = none ∧ s.select r none = some b) →
      ∃ t, exec .holdBegin s = .next t ∧ t.control = s.control
        ∧ t.level = { s.level with
            book := s.bookWith r.handle fun q => { q with
              bay := some b
              state := .held
              captures := { q.captures with heldAt := some (q.captures.heldAt.getD s.clock), seatedAt := none } }
            waiting := s.waiting.filter fun w => w != r.handle }
        ∧ t.bay b = { s.bay b with
            holder := some r.handle
            state := .held
            occupant := none
            timer := s.armed? .grace (plusTicks r.start (s.classOf r.cls).grace)
            lamp := true }
        ∧ s.OthersKept t b
        ∧ t.sp.notices = s.noticesWith (.holdBegun r.handle r.token r.cls b r.start
            (plusTicks r.start (s.classOf r.cls).grace) r.arrived))
    ∧ (r.bay = none → s.candidates r none = [] →
      ∃ t, exec .holdBegin s = .next t ∧ t.control = s.control
        ∧ t.level = { s.level with
            book := s.bookWith r.handle fun q => { q with state := .waitingBay, bay := none }
            waiting := t.waiting }
        ∧ (∃ before after, s.waiting = before ++ after ∧ t.waiting = before ++ r.handle :: after)
        ∧ (∀ c, (t.bay c).sansLamp = (s.bay c).sansLamp)
        ∧ t.sp.notices = s.noticesWith (.holdWaiting r.handle r.token r.cls r.start r.reseats .noBay))
    ∧ ∀ b, r.bay = some b → (s.bay b).state ≠ .free →
      ∃ t, exec .holdBegin s = .next t ∧ t.control = s.control ∧ t.level = s.levelReseated r b
        ∧ (t.bay b).sansLamp = (s.bay b).sansLamp ∧ s.OthersReseated t r b
        ∧ t.sp.notices = s.noticesWith (s.reseatNotice r b)

/-- A record whose grace runs out is closed, with its CLOSED notice. UNSERVED (R89): the first waiting record that the
last comparison found past its start plus grace, and that still is. GRACE_EXPIRY (R108): the holder of a HELD bay is a
no-show, arrived or not; its bay's timer and holder go, it goes FREE and LAMP is owed. When nobody waits for a bay there
the bay stays FREE. Else the release service runs for it (R88): the first record of the waiting-bay list that is of its
class, and whose need its free run covers with the no-show left out, is placed on it with HOLD_BEGUN. What the last
comparison found is the model's own marker (notes/assumptions/16), and a grace exactly half the clock away reads as not
reached (notes/assumptions/44). -/
def Obligations.GraceDeadlinesCloseTheRecord : Prop :=
  (∀ (s : State) (h : Nat) (r : Reservation), s.work = Work.none → s.dueUnserved = some h → s.find h = some r →
    r.state = .waitingBay ∧ 0 ≤ diff s.clock (plusTicks r.start (s.classOf r.cls).grace)
    ∧ ∃ t, exec .unserved s = .next t
      ∧ t.control = { s.control with unservedDue := s.unservedDue.filter fun w => w != h }
      ∧ t.level = s.levelWithout h
      ∧ (∀ c, (t.bay c).sansLamp = (s.bay c).sansLamp)
      ∧ t.sp.notices = s.noticesWith (.closed {
          handle := h, token := r.token, cls := r.cls, tier := r.tier, reason := .unserved, bay := none,
          captures := r.captures, energy := r.energy, sessions := r.sessions, interrupted := r.interrupted,
          dwell := 0 }))
  ∧ ∀ (s : State) (b h : Nat) (r : Reservation), s.Expires b .grace → s.work = Work.none →
    (s.bay b).state = .held → (s.bay b).holder = some h → s.find h = some r → r.state = .held → r.bay = some b →
    let closed : NoticeBody := .closed {
      handle := h, token := r.token, cls := r.cls, tier := r.tier, reason := .noShow, bay := some b,
      captures := r.captures, energy := r.energy, sessions := r.sessions, interrupted := r.interrupted, dwell := 0 }
    (s.NobodyWaits →
      ∃ t, exec (.graceExpiry b) s = .next t ∧ t.control = s.control ∧ t.level = s.levelWithout h
        ∧ t.bay b = s.bayFreed b ∧ s.OthersKept t b ∧ t.sp.notices = s.noticesWith closed)
    ∧ ∀ (before after : List Nat) (w : Nat) (q : Reservation), s.LevelInv → (s.bay b).loaded = true →
      s.waiting = before ++ w :: after → w ≠ h → s.find w = some q →
      let serves (x : Reservation) := x.handle ≠ h ∧ x.cls = (s.bay b).cls
        ∧ ∀ n, s.freeRun? b (some h) = some n → diff x.intervalEnd s.clock ≤ (n : Int)
      (∀ v ∈ before, ∀ x, s.find v = some x → ¬ serves x) → serves q →
      0 < diff (plusTicks q.start (s.classOf q.cls).grace) s.clock →
      ∃ t, exec (.graceExpiry b) s = .next t ∧ t.control = s.control
        ∧ t.level = { s.levelWithout h with
            book := (s.levelWithout h).book.map fun x => if x.handle = w then x.heldOn b s.clock else x
            waiting := s.waiting.filter fun v => v != h && v != w }
        ∧ t.bay b = s.bayHeldFor b q ∧ s.OthersKept t b
        ∧ t.sp.notices = ((s.sp.queueNotice s.clock closed).queueNotice s.clock
            (.holdBegun w q.token q.cls b q.start (plusTicks q.start (s.classOf q.cls).grace) q.arrived)).notices

/-- SETTLE_EXPIRY (R107) on a CLEARING bay. With no status since it entered CLEARING, SETTLE is armed again and QUERY owed
again. With a status vacant and unplugged it goes FREE with LAMP owed. It stays FREE when nobody waits for a bay; when no
record waits, the first walk-up from the head that its class and free run serve leaves the queue and is given the bay, with
a slot free: a WALKUP record HELD on it with GRACE armed, WALKUP_ASSIGNED with cause QUEUE, and HOLD_BEGUN (R88, R116).
With a status occupied and unplugged it goes OCCUPIED, occupant UNKNOWN, holder none, with PLUG_WAIT armed and LAMP
owed. Where the keys of R42 order the book in a cycle, the record's place is the model's choice (notes/assumptions/59). -/
def Obligations.SettleJudgesTheBay : Prop :=
  ∀ (s : State) (b : Nat), s.Expires b .settle → s.work = Work.none → (s.bayClass b).inRange = true →
    (s.bay b).state = .clearing →
    ((s.bay b).status = none →
      ∃ t, exec (.settleExpiry b) s = .next t ∧ t.control = s.control ∧ t.level = s.level ∧ t.sp = s.sp
        ∧ t.bay b = { s.bay b with
            timer := s.armed? .settle (plusTicks s.clock (s.bayClass b).settle)
            query := true }
        ∧ ∀ c, c ≠ b → t.bay c = s.bay c)
    ∧ (∀ st, (s.bay b).status = some st → st.occupied = false → st.plugged = false → s.NobodyWaits →
      ∃ t, exec (.settleExpiry b) s = .next t ∧ t.control = s.control ∧ t.level = s.level ∧ t.sp = s.sp
        ∧ t.bay b = { s.bay b with
            timer := .none, holder := none, occupant := none, state := .free, lamp := true }
        ∧ ∀ c, c ≠ b → t.bay c = s.bay c)
    ∧ (∀ st (before after : List WalkEntry) (w : WalkEntry) (slot : Nat), (s.bay b).status = some st →
      st.occupied = false → st.plugged = false → s.waiting = [] → s.walkups = before ++ w :: after →
      s.freeSlot = some slot → w.mask.testBit (s.bay b).cls = true → s.walkupRun b = true →
      (∀ x ∈ before, x.mask.testBit (s.bay b).cls = false ∧ x.token ≠ w.token) →
      let r := s.walkupRecord slot w.token b w.stay .held
        { Captures.none with heldAt := some s.clock, arrivedAt := some s.clock }
      ∃ t, exec (.settleExpiry b) s = .next t ∧ t.control = s.control
        ∧ t.level = { s.level with
            book := insertBy bookBefore r s.book
            nextOrder := s.nextOrder + 1
            walkups := before ++ after }
        ∧ t.bay b = s.bayHeldFor b r ∧ s.OthersKept t b
        ∧ t.sp.notices = ((s.sp.queueNotice s.clock (.walkupAssigned r.handle w.token r.cls b s.clock r.length .queue
              (some w.enqueuedAt))).queueNotice s.clock
              (.holdBegun r.handle w.token r.cls b s.clock (s.graceOf r) true)).notices)
    ∧ (∀ st, (s.bay b).status = some st → st.occupied = true → st.plugged = false →
      ∃ t, exec (.settleExpiry b) s = .next t ∧ t.control = s.control ∧ t.level = s.level ∧ t.sp = s.sp
        ∧ t.bay b = { s.bay b with
            timer := s.armed? .plugWait (plusTicks s.clock (s.bayClass b).plugWait)
            holder := none, occupant := some .unknown, state := .occupied, lamp := true }
        ∧ ∀ c, c ≠ b → t.bay c = s.bay c)

/-- PLUG_WAIT_EXPIRY (R99) and INRUSH_EXPIRY (R140) arm WINDOW_END at the record's end, which lies ahead. PLUG_WAIT leaves
state and occupant as they are, queues PLUG_WAIT_EXPIRED, and arms nothing on a bay without a holder. INRUSH takes the bay
from STARTING to CHARGING, with no notice, and its ceiling as it was, and calls for a rescan, which starts nothing when no
bay waits. With one bay waiting a rescan starts it when four conditions hold (R136 to R139): its floor fits its branch and
the level, fewer than two bays of its branch and none of its neighbours are STARTING. It then leaves the queue, joins the
energised set at now, goes STARTING with INRUSH armed, a ceiling from the recompute and ENERGISE owed; its record goes
CHARGING, a session that is not resumed is counted, up to 255, and captures started_at if absent; SESSION_START is queued.
When a condition fails nothing changes; nor does a rescan do anything while the B-port does not send. -/
def Obligations.PlugWaitAndInrushEnd : Prop :=
  (∀ (s : State) (b h : Nat) (r : Reservation), s.Expires b .plugWait → s.work = Work.none →
    (s.bay b).holder = some h → s.find h = some r → 0 < diff r.endTick s.clock →
    ∃ t, exec (.plugWaitExpiry b) s = .next t ∧ t.control = s.control ∧ t.level = s.level
      ∧ t.bay b = { s.bay b with timer := .running r.endTick .windowEnd } ∧ (∀ c, c ≠ b → t.bay c = s.bay c)
      ∧ t.sp.notices = s.noticesWith (.plugWaitExpired b (s.bay b).occupant (some h)))
  ∧ (∀ (s : State) (b : Nat), s.Expires b .plugWait → s.work = Work.none → (s.bay b).holder = none →
    ∃ t, exec (.plugWaitExpiry b) s = .next t ∧ t.control = s.control ∧ t.level = s.level
      ∧ t.bay b = { s.bay b with timer := .none } ∧ (∀ c, c ≠ b → t.bay c = s.bay c)
      ∧ t.sp.notices = s.noticesWith (.plugWaitExpired b (s.bay b).occupant none))
  ∧ (∀ (s : State) (b h : Nat) (r : Reservation), s.Expires b .inrush → s.work = Work.none →
    (s.bay b).state = .starting → (s.bay b).holder = some h → s.find h = some r → 0 < diff r.endTick s.clock →
    ∃ x : State, exec (.inrushExpiry b) s = .next (x.finished Work.rescans)
      ∧ x.control = s.control ∧ x.level = s.level ∧ x.sp = s.sp
      ∧ x.bay b = { s.bay b with state := .charging, timer := .running r.endTick .windowEnd }
      ∧ ∀ c, c ≠ b → x.bay c = s.bay c)
  ∧ (∀ x : State, x.QueuesEmpty ∨ (x.bp.link.state ≠ .active ∧ x.bp.link.state ≠ .caution) →
    x.finished Work.rescans = { x with work := Work.none })
  ∧ ∀ (x : State) (br b h : Nat) (paused : Option Tick) (r : Reservation), x.work = Work.none → x.PortsInv →
    x.bp.link.state = .active ∨ x.bp.link.state = .caution → br < 8 → x.queue br = [⟨b, paused⟩] →
    (∀ c, c ≠ br → x.queue c = []) → b < 128 → (x.bay b).branch = br → (x.bay b).state = .waitingPower →
    (x.bay b).holder = some h → x.find h = some r → (∀ e ∈ x.energised, e.bay ≠ b) → x.FloorsFit →
    let c := x.bayClass b
    let names (y z : Nat) := ∃ m, (x.bay y).map = some m ∧ (m.left = some z ∨ m.right = some z)
    let fits := x.floorSum br + c.floor ≤ x.branchBudget br ∧ x.levelFloorSum + c.floor ≤ x.levelBudget
      ∧ ((List.range 128).filter fun y => (x.bay y).state == .starting && (x.bay y).branch == br).length < 2
      ∧ ∀ y < 128, (x.bay y).state = .starting → ¬ names b y ∧ ¬ names y b
    (¬ fits → x.finished Work.rescans = x)
    ∧ (fits → c.inRange = true →
      let t := x.finished Work.rescans
      let n := if paused.isSome = true then r.sessions else min 255 (r.sessions + 1)
      t.control = x.control
        ∧ t.level = { x.level with
            energised := insertBy startBefore ⟨b, br, c.draw, c.floor, x.clock⟩ x.energised
            queues := x.queues.setIfInBounds br []
            book := x.bookWith h fun q => { q with
              state := .charging
              sessions := n
              captures := { q.captures with
                startedAt := if paused.isSome = true then q.captures.startedAt
                  else some (q.captures.startedAt.getD x.clock) } } }
        ∧ (b, (t.bay b).ceiling) ∈ t.ceilings
        ∧ t.bay b = { x.bay b with
            state := .starting
            timer := .running (plusTicks x.clock c.inrush) .inrush
            ceiling := (t.bay b).ceiling
            power := some .energise }
        ∧ (∀ d, d ≠ b → (t.bay d).sansMarks = ({ x.bay d with ceiling := (t.bay d).ceiling } : Bay).sansMarks)
        ∧ t.sp.notices = x.noticesWith
            (.sessionStart h r.token b br (t.bay b).ceiling n paused.isSome))

/-- WINDOW_END_EXPIRY (R103). On a bay that is PARKED, or OCCUPIED after its plug wait, with a holder: the bay and the
record end PARKED, an OCCUPIED bay's occupant becomes HOLDER, and OVERSTAY is armed at the end plus the class overstay. On
a STARTING or CHARGING bay the session ends first: the bay leaves the energised set with ceiling 0 and DEENERGISE
WINDOW_END owed, its record takes ended_at and the energy of the last status, and SESSION_END is queued; the floors fit and
no bay waits in a start queue there. On a WAITING_POWER bay the bay leaves its queue first, a paused session is ended,
interrupted, with SESSION_END, and the rescan follows. OVERSTAY_EXPIRY (R104) sets the timer to none and, for a record
whose flag is clear, sets the flag and queues OVERSTAY, with LAMP owed; a record whose flag is set gets no second notice.
That a paused session takes the energy of the last status too is deduced (notes/assumptions/45). -/
def Obligations.WindowEndAndOverstay : Prop :=
  (∀ (s : State) (b h : Nat) (r : Reservation), s.Expires b .windowEnd → s.work = Work.none →
    (s.bay b).holder = some h → s.find h = some r →
    0 < diff (plusTicks r.endTick (s.bayClass b).overstay) s.clock →
    let x := s.bay b
    let energy := match x.status with | some st => some st.energy | none => r.energy
    let late : Timer := .running (plusTicks r.endTick (s.bayClass b).overstay) .overstay
    (x.state = .parked ∨ x.state = .occupied →
      ∃ t, exec (.windowEndExpiry b) s = .next t ∧ t.control = s.control
        ∧ t.level = { s.level with book := s.bookWith h fun q => { q with state := .parked } }
        ∧ (t.bay b).sansLamp = ({ x with
            state := .parked
            occupant := if x.state = .occupied then some .holder else x.occupant
            timer := late } : Bay).sansLamp
        ∧ s.OthersKept t b ∧ t.sp = s.sp)
    ∧ (x.state = .starting ∨ x.state = .charging → s.FloorsFit → s.QueuesEmpty → s.PortsInv →
      ∃ t, exec (.windowEndExpiry b) s = .next t ∧ t.control = s.control
        ∧ t.level = { s.level with
            energised := s.energised.filter fun y => y.bay != b
            book := s.bookWith h fun q => { q with
              state := .parked, energy := energy, captures := { q.captures with endedAt := some s.clock } } }
        ∧ t.bay b = { x with
            state := .parked, ceiling := 0, power := some (.deenergise .windowEnd), timer := late }
        ∧ (∀ d, d ≠ b → (t.bay d).sansMarks = ({ s.bay d with ceiling := (t.bay d).ceiling } : Bay).sansMarks)
        ∧ t.sp.notices = s.noticesWith (.sessionEnd h b energy r.sessions))
    ∧ (x.state = .waitingPower →
      let paused := ∃ q ∈ s.queue x.branch, q.bay = b ∧ q.paused.isSome = true
      (∀ p ∈ s.queue x.branch, ∀ q ∈ s.queue x.branch, p.bay = b → q.bay = b → p = q) →
      ∃ u : State, exec (.windowEndExpiry b) s = .next (u.finished Work.rescans) ∧ u.control = s.control
        ∧ u.level.queues = s.queues.setIfInBounds x.branch ((s.queue x.branch).filter fun q => q.bay != b)
        ∧ u.bay b = { x with state := .parked, timer := late }
        ∧ (∀ d, d ≠ b → u.bay d = s.bay d)
        ∧ (¬ paused → u.sp = s.sp
            ∧ u.level = { s.level with
                queues := u.queues, book := s.bookWith h fun q => { q with state := .parked } })
        ∧ (paused → u.sp.notices = s.noticesWith (.sessionEnd h b energy r.sessions)
            ∧ u.level = { s.level with
                queues := u.queues
                book := s.bookWith h fun q => { q with
                  state := .parked, energy := energy, interrupted := true,
                  captures := { q.captures with endedAt := some s.clock } } })))
  ∧ (∀ (s : State) (b h : Nat) (r : Reservation), s.Expires b .overstay → s.work = Work.none →
    (s.bay b).state = .parked → (s.bay b).occupant ≠ some .foreign → (s.bay b).holder = some h →
    s.find h = some r →
    (r.overstay = false →
      ∃ t, exec (.overstayExpiry b) s = .next t ∧ t.control = s.control
        ∧ t.level = { s.level with book := s.bookWith h fun q => { q with overstay := true } }
        ∧ t.bay b = { s.bay b with timer := .none, lamp := true }
        ∧ s.OthersKept t b
        ∧ t.sp.notices = s.noticesWith (.overstay h r.token b r.endTick))
    ∧ (r.overstay = true →
      ∃ t, exec (.overstayExpiry b) s = .next t ∧ t.control = s.control ∧ t.level = s.level ∧ t.sp = s.sp
        ∧ t.bay b = { s.bay b with timer := .none } ∧ ∀ c, c ≠ b → t.bay c = s.bay c))

/-- SILENCE_LIMIT (R151) and POST_FAULT (R152) send a bay to SUSPECT (R154): the timer is dropped whatever its purpose, a
holder in session stays with the occupant, a bay with no holder loses its occupant, LAMP is owed, and BAY_STATE is queued
with the reason and the holder. The holder of a HELD bay, its grace ahead, is reseated first, which leaves the bay with no
holder. A session on a STARTING or CHARGING bay is ended first, interrupted, with DEENERGISE SUSPECT and SESSION_END. A
WAITING_POWER bay leaves its queue first and its record goes PARKED, a paused session ended with SESSION_END and the energy
of the last status (deduced, notes/assumptions/45). There the floors fit and no other bay waits for power, so no start follows. A
POST_FAULT is first passed to the site as TAGGED_EVENT, and changes no state of a bay in SUSPECT or OUT. Which bay a tick
found silent is the model's own marker (notes/assumptions/16); that a frame of an OUT bay is heard is deduced
(notes/assumptions/13). -/
def Obligations.SuspectEntry : Prop :=
  (∀ (s : State) (b : Nat), b < 128 → s.dueSilence = some b → s.work = Work.none →
    (s.bay b).state = .clearing ∨ (s.bay b).state = .free ∨ (s.bay b).state = .occupied ∨ (s.bay b).state = .parked →
    ∃ t, exec (.silenceLimit b) s = .next t ∧ t.control = s.control ∧ t.level = s.level
      ∧ t.bay b = { s.bay b with
          state := .suspect
          occupant := if (s.bay b).holder.isSome then (s.bay b).occupant else none
          timer := .none
          silenceDue := false
          lamp := true }
      ∧ (∀ c, c ≠ b → t.bay c = s.bay c)
      ∧ t.sp.notices = s.noticesWith (.bayState b .suspect .silent (s.bay b).holder))
  ∧ (∀ (c : Instr) (s : State) (b h silence : Nat) (r : Reservation) (reason : BayReason) (control : Control)
      (tagged : SPort), s.work = Work.none →
    (c = .silenceLimit b ∧ b < 128 ∧ s.dueSilence = some b ∧ reason = .silent ∧ silence = (s.bay b).silence
        ∧ control = s.control ∧ tagged = s.sp)
      ∨ (c = .postFault ∧ reason = .post ∧ silence = 0 ∧ ∃ f rest, s.Hears f rest b
        ∧ readPostFrame f = .event .postFault ∧ control = { s.control with bQueue := rest }
        ∧ tagged = s.sp.queueNotice s.clock (.taggedEvent b (s.bay b).state (s.bay b).holder f.payload)) →
    (s.bay b).holder = some h → s.find h = some r →
    let x := s.bay b
    let energy := match x.status with | some st => some st.energy | none => r.energy
    let y : Bay := { x with state := .suspect, timer := .none, silence := silence, silenceDue := false, lamp := true }
    (x.state = .held → s.LevelInv → 0 < diff (plusTicks r.start (s.classOf r.cls).grace) s.clock →
      ∃ t, exec c s = .next t ∧ t.control = control ∧ t.level = s.levelReseated r b
        ∧ t.bay b = { y with holder := none, occupant := none } ∧ s.OthersReseated t r b
        ∧ t.sp.notices = ((tagged.queueNotice s.clock (s.reseatNotice r b)).queueNotice s.clock
            (.bayState b .suspect reason none)).notices)
    ∧ (x.state = .starting ∨ x.state = .charging → s.FloorsFit → s.QueuesEmpty → s.PortsInv →
      ∃ t, exec c s = .next t ∧ t.control = control
        ∧ t.level = { s.level with
            energised := s.energised.filter fun e => e.bay != b
            book := s.bookWith h fun q => { q with
              state := .parked, energy := energy, interrupted := true
              captures := { q.captures with endedAt := some s.clock } } }
        ∧ t.bay b = { y with ceiling := 0, power := some (.deenergise .suspect) }
        ∧ (∀ d, d ≠ b → (t.bay d).sansMarks = ({ s.bay d with ceiling := (t.bay d).ceiling } : Bay).sansMarks)
        ∧ t.sp.notices = ((tagged.queueNotice s.clock (.sessionEnd h b energy r.sessions)).queueNotice s.clock
            (.bayState b .suspect reason (some h))).notices)
    ∧ (x.state = .waitingPower → s.FloorsFit → (∀ e ∈ s.energised, e.bay ≠ b) →
      (∀ q ∈ s.queue x.branch, q.bay = b) → (∀ br, br ≠ x.branch → s.queue br = []) →
      (∀ p ∈ s.queue x.branch, ∀ q ∈ s.queue x.branch, p = q) →
      let paused := ∃ q ∈ s.queue x.branch, q.paused.isSome = true
      ∃ t, exec c s = .next t ∧ t.control = control
        ∧ t.level.queues = s.queues.setIfInBounds x.branch []
        ∧ t.bay b = y
        ∧ (∀ d, d ≠ b → (t.bay d).sansMarks = ({ s.bay d with ceiling := (t.bay d).ceiling } : Bay).sansMarks)
        ∧ (¬ paused → t.sp.notices = (tagged.queueNotice s.clock (.bayState b .suspect reason (some h))).notices
            ∧ t.level = { s.level with
                queues := t.queues, book := s.bookWith h fun q => { q with state := .parked } })
        ∧ (paused → t.sp.notices = ((tagged.queueNotice s.clock (.sessionEnd h b energy r.sessions)).queueNotice
              s.clock (.bayState b .suspect reason (some h))).notices
            ∧ t.level = { s.level with
                queues := t.queues
                book := s.bookWith h fun q => { q with
                  state := .parked, energy := energy, interrupted := true,
                  captures := { q.captures with endedAt := some s.clock } } })))
  ∧ (∀ (s : State) (f : Frame) (rest : List Frame) (b : Nat), s.Hears f rest b →
    readPostFrame f = .event .postFault → s.work = Work.none →
    let s' := tagEvent b f.payload (heard b (popB s))
    ((s.bay b).state = .clearing ∨ (s.bay b).state = .free ∨ (s.bay b).state = .occupied
        ∨ (s.bay b).state = .parked →
      ∃ t, exec .postFault s = .next t ∧ t.control = { s.control with bQueue := rest } ∧ t.level = s.level
        ∧ t.bay b = { s.bay b with
            state := .suspect
            occupant := if (s.bay b).holder.isSome then (s.bay b).occupant else none
            timer := .none
            silence := 0
            silenceDue := false
            lamp := true }
        ∧ (∀ c, c ≠ b → t.bay c = s.bay c)
        ∧ t.sp.notices = s'.noticesWith (.bayState b .suspect .post (s.bay b).holder))
    ∧ ((s.bay b).state = .suspect ∨ (s.bay b).state = .out → exec .postFault s = .next s'))

/-! ### The frames, the replies and the notices -/

/-- Every frame of the level bus survives the line: what a sender puts on it a receiver reads back, field by field, and the
same frame with any other check is a CHECK error. -/
def Obligations.FramesSurviveTheLine : Prop :=
  ∀ f : Frame, f.inRange = true →
    readWire f.wire = .ok f ∧ ∀ c, c ≠ f.wire.check → readWire { f.wire with check := c } = .error .check

/-- R197: an item's body is cut into segments of at most 26 bytes, every one but the last full, which put together again are
the body, in ceiling(n / 26) segments or in one when the body is empty; every frame of a reply is a REPLY of priority 3 to
the requester, begins with the tag, the request kind, the result and the segment byte, and fits in 31 bytes; every frame of a
notice is a broadcast NOTICE that begins with its kind code, the flag byte and the clock count of its event, and fits too. The
segment byte holds the segment index in bits 3..0 and marks the last segment alone in bit 6; a notice's flag byte holds the
gap flag in bit 7 besides. -/
def Obligations.SegmentsCarryTheWholeBody : Prop :=
  (∀ body : List Byte,
    segmentCount body.length = (if body.length = 0 then 1 else (body.length + 25) / 26)
    ∧ (List.range (segmentCount body.length)).flatMap (segmentBytes body) = body
    ∧ (∀ i, (segmentBytes body i).length ≤ 26)
    ∧ ∀ i, i + 1 < segmentCount body.length → (segmentBytes body i).length = 26)
  ∧ (∀ (r : Reply) (source i : Nat), r.tag < 65536 → r.kind < 256 → i < 16 →
    (r.frame source i).priority = 3 ∧ (r.frame source i).kind = 0x80 ∧ (r.frame source i).dest = r.dest
    ∧ (r.frame source i).source = source
    ∧ tagOf (r.frame source i).payload = some r.tag ∧ field (r.frame source i).payload 2 1 = r.kind
    ∧ field (r.frame source i).payload 3 1 = r.result.code
    ∧ field (r.frame source i).payload 4 1 = (if i + 1 = segmentCount r.body.bytes.length then 64 else 0) + i
    ∧ (r.frame source i).payload.drop 5 = segmentBytes r.body.bytes i
    ∧ (r.frame source i).payload.length ≤ 31)
  ∧ ∀ (n : Notice) (source i : Nat), i < 16 →
    (n.frame source i).kind = 0x81 ∧ (n.frame source i).dest = 255
    ∧ (n.frame source i).source = source ∧ (n.frame source i).priority = n.body.priority
    ∧ field (n.frame source i).payload 0 1 = n.body.code
    ∧ field (n.frame source i).payload 1 1 = (if n.gap = true then 128 else 0)
        + (if i + 1 = segmentCount n.body.bytes.length then 64 else 0) + i
    ∧ field (n.frame source i).payload 2 3 = n.clock.toNat
    ∧ (n.frame source i).payload.drop 5 = segmentBytes n.body.bytes i
    ∧ (n.frame source i).payload.length ≤ 31

/-- R184 and R197: a notice joins the tail of a queue that holds fewer than 32. When it holds 32, the oldest notice that is
not held is discarded, the new one joins the tail, and gap pending is set. A notice is held while a slot has a segment of it,
PENDING or SENDING, and from the completion of its segment 0 until it leaves its queue (R197): the model marks it begun at
that completion. That a notice whose item was broken off after that goes on being held, although it starts again from segment
0, is deduced (notes/assumptions/15): what starts it again leaves the mark. -/
def Obligations.AFullNoticeQueueLosesItsOldest : Prop :=
  (∀ (p : SPort) (clock : Tick) (body : NoticeBody),
    let held (x : Notice) := x.begun = true
      ∨ ∃ (i : Nat) (f : SFill), (p.slots[i]? = some (.pending f) ∨ p.slots[i]? = some (.sending f))
        ∧ f.item = .notice x.id
    (p.notices.length < 32 →
      p.queueNotice clock body = { p with
        notices := p.notices ++ [⟨p.nextId, clock, false, 0, false, body⟩]
        nextId := p.nextId + 1 })
    ∧ ∀ (before after : List Notice) (n : Notice), p.notices = before ++ n :: after → p.notices.length = 32 →
      (∀ x ∈ before, held x) → ¬ held n →
      p.queueNotice clock body = { p with
        notices := before ++ after ++ [⟨p.nextId, clock, false, 0, false, body⟩]
        nextId := p.nextId + 1
        gapPending := true })
  ∧ ∀ (s : State) (id : Nat),
    (restartItem (.notice id) s).sp.notices
      = s.sp.notices.map fun n => if n.id = id then { n with sent := 0, begun := n.begun } else n

/-- R14: the mark that owing POWER leaves. A first mark is set as it is; a mark already set, or one that a PENDING slot of
the bay gives back, merges with the newer one by the table: DEENERGISE with its newer reason and ENERGISE win, and
SET_CEILING leaves SET_CEILING a SET_CEILING and makes everything else an ENERGISE. The rest of the bay record stays. R170,
R171: what owing a mark of any family does to the slots. A slot filled from another bay or family stays; a PENDING one of this
bay and family is aborted; a SENDING one goes on, and remembers that its mark has been set again, the model's own record of it
(notes/assumptions/51). -/
def Obligations.PowerMarksMerge : Prop :=
  (∀ (o : PowerMark) (r q : PowerReason),
    mergePower o (.deenergise r) = .deenergise r ∧ mergePower o .energise = .energise
    ∧ mergePower .energise .setCeiling = .energise ∧ mergePower .setCeiling .setCeiling = .setCeiling
    ∧ mergePower (.deenergise q) .setCeiling = .energise)
  ∧ ∀ (s : State) (b : Nat) (m : PowerMark), b < 128 →
    ((∀ i, match s.bSlot i with | .pending f => f.origin.isFor .power b = false | _ => True) →
      (owePower b m s).bay b = { s.bay b with
        power := some (match (s.bay b).power with | none => m | some o => mergePower o m) })
    ∧ (∀ (i : Nat) (f : BFill) (o : PowerMark), s.bSlot i = .pending f → f.origin = .power b o →
      (∀ j g, j ≠ i → s.bSlot j = .pending g → g.origin.isFor .power b = false) →
      (owePower b m s).bSlot i = .empty .aborted
      ∧ (owePower b m s).bay b = { s.bay b with
          power := some (mergePower (match (s.bay b).power with | none => o | some n => mergePower o n) m) })
    ∧ ∀ i < 6,
      let met (fam : Family) : BSlot := match s.bSlot i with
        | .empty o => .empty o
        | .pending f => if f.origin.isFor fam b = true then .empty .aborted else .pending f
        | .sending f => if f.origin.isFor fam b = true then .sending { f with remarked := true } else .sending f
      (owePower b m s).bSlot i = met .power ∧ (∀ r, (oweAccess b r s).bSlot i = met .access)
      ∧ (oweLamp b s).bSlot i = met .lamp ∧ (oweQuery b s).bSlot i = met .query

/-! ### Request intake -/

/-- R180, R182: a request command takes the frame of its kind from the head of the S-port receive queue when fewer than
4 replies wait and no PART_RESET is pending, and gives exactly one reply, at the tail of the reply queue: to the frame's
source, with its tag (0 when it is too short to hold one) and kind. The other frames and replies stay (a PORT_CLEAR of
the S-port empties the receive queue too, and a reply it takes out of a slot starts again from segment 0). In every
other case the command changes nothing. That last clause is the model's choice (notes/assumptions/1). -/
def Obligations.EveryRequestGetsOneReply : Prop :=
  ∀ (c : Instr) (k : Nat) (s : State), requestKind c = some k →
    (∀ (f : Frame) (rest : List Frame), s.sp.rxq = f :: rest → s.sp.replies.length < 4 → s.sp.resetPending = false →
      f.kind = k →
      ∃ (t : State) (r : Reply), exec c s = .next t
        ∧ (c ≠ .portClear → t.sp.rxq = rest ∧ t.sp.replies = s.sp.replies ++ [r])
        ∧ t.sp.replies.map (fun x => { x with sent := 0 })
            = s.sp.replies.map (fun x => { x with sent := 0 }) ++ [r]
        ∧ r.dest = f.source ∧ r.tag = (tagOf f.payload).getD 0 ∧ r.kind = f.kind ∧ r.sent = 0
        ∧ (tagOf f.payload = none → r.result = .format ∧ r.body = .none)
        ∧ (tagOf f.payload ≠ none → isManagementKind k = true → f.source ≠ s.settings.mgmtNode →
            r.result = .notPermitted ∧ r.body = .none))
    ∧ ((s.sp.rxq = [] ∨ 4 ≤ s.sp.replies.length ∨ s.sp.resetPending = true
          ∨ ∃ f rest, s.sp.rxq = f :: rest ∧ f.kind ≠ k) →
        exec c s = .next s)

/-- R180: a refused request changes nothing but the reply queue (and leaves the receive queue). For every request command, a
result that is neither OK nor CLAMPED nor QUEUED leaves the state with its one reply added and no other change. -/
def Obligations.RefusalsChangeNothingElse : Prop :=
  ∀ (c : Instr) (k : Nat) (s t : State) (f : Frame) (rest : List Frame) (r : Reply), requestKind c = some k →
    s.sp.rxq = f :: rest → s.sp.replies.length < 4 → s.sp.resetPending = false → f.kind = k →
    exec c s = .next t → t.sp.replies.getLast? = some r →
    r.result ≠ .ok → r.result ≠ .clamped → r.result ≠ .queued →
    t = s.answer f r.tag r.result r.body

/-- REFUSED_FRAME_KIND (R180 steps 1 and 2): a frame whose kind is no request kind and no relay kind is answered FORMAT
with tag 0 when it cannot hold a tag, RELAY_REFUSED when the bay segment carries its kind between the part and its
posts, and FORMAT otherwise. OTHER_POST_FRAME (R174, R198): a frame of a post that is neither POST_STATUS nor
POST_EVENT, or whose payload has the wrong length, sets the bay's silence ticks to 0 and does nothing else. For an OUT
bay that is deduced (notes/assumptions/13). -/
def Obligations.OtherFramesAreTurnedAway : Prop :=
  (∀ (s : State) (f : Frame) (rest : List Frame), s.sp.rxq = f :: rest → s.sp.replies.length < 4 →
    s.sp.resetPending = false → isRequestKind f.kind = false →
    (tagOf f.payload = none → exec .refusedFrameKind s = .next (s.answer f 0 .format .none))
    ∧ ∀ tag, tagOf f.payload = some tag →
      exec .refusedFrameKind s = .next (s.answer f tag
        (if f.kind = 0x01 ∨ f.kind = 0x02 ∨ (0x10 ≤ f.kind ∧ f.kind ≤ 0x15) then .relayRefused else .format) .none))
  ∧ (∀ f : Frame, (f.kind ≠ 0x01 ∧ f.kind ≠ 0x02) ∨ (f.kind = 0x01 ∧ f.payload.length ≠ 11)
      ∨ (f.kind = 0x02 ∧ f.payload.length ≠ 5) → readPostFrame f = .other)
  ∧ ∀ (s : State) (f : Frame) (rest : List Frame) (b : Nat), s.Hears f rest b → readPostFrame f = .other →
    exec .otherPostFrame s = .next
      (({ s with bp := { s.bp with rxq := rest } } : State).setBay b
        { s.bay b with silence := 0, silenceDue := false })

/-! ### The requests of the book -/

/-- BOOK (R49 to R52). The first check that fails gives the reply: NOT_READY, BAD_FIELD, BEYOND_HORIZON, TOO_LATE, DUPLICATE
(an entry of the token waits in the walk-up queue, or a live record of it meets the interval), REFUSED_POLICY with reason and
deciding index, BOOK_FULL, NO_FIT. A request that passes them gets a BOOKED record in the lowest free slot with the times of
R40, in its place in book order; the reply is CLAMPED when the length given was longer than the one applied. When its
hold-begin is at or before now, its grace ahead, the hold begins at once: on its own bay if FREE, or, class-bound, on the bay
selection gives, with HOLD_BEGUN; off its own bay if that is not FREE, by a reseat, with RESEATED; with no bay it waits, with
HOLD_WAITING; and the reply gives the state and bay that came of it. That a walk-up record whose interval does not meet the
new one refuses nothing is deduced (notes/assumptions/48), and so is the body of REFUSED_POLICY (notes/assumptions/12). Where
the keys of R42 order the book in a cycle, the record's place is the model's choice (notes/assumptions/59). -/
def Obligations.BookInsertsTheRecord : Prop :=
  ∀ (s : State) (f : Frame) (rest : List Frame) (tag : Nat) (q : BookReq), s.Takes f rest Kind.book tag →
    parseBook f.payload = some q → s.work = Work.none →
    let start : Tick := BitVec.ofNat 20 q.start
    let ready := s.clockSet = true ∧ ∃ b < 128, (s.bay b).state ≠ .out
    let good := q.token ≠ 0 ∧ (s.cls q.cls).isSome = true ∧ q.start ≤ 1048575 ∧ 6 ≤ q.length ∧ q.tier ≤ 1
      ∧ ∀ b, q.bay = some b → b < 128 ∧ (s.bay b).loaded = true ∧ (s.bay b).cls = q.cls
    let c := s.classOf q.cls
    (¬ ready → exec .book s = .next (s.answer f tag .notReady .none))
    ∧ (ready → ¬ good → exec .book s = .next (s.answer f tag .badField .none))
    ∧ (ready → good → (s.settings.horizon : Int) < diff start s.clock →
        exec .book s = .next (s.answer f tag .beyondHorizon .none))
    ∧ (ready → good → diff start s.clock ≤ (s.settings.horizon : Int) → 0 ≤ diff s.clock (plusTicks start c.grace) →
        exec .book s = .next (s.answer f tag .tooLate .none))
    ∧ (ready → good → diff start s.clock ≤ (s.settings.horizon : Int) → diff s.clock (plusTicks start c.grace) < 0 →
        let n := min q.length s.settings.maxLength
        let v := s.evaluateBook q.token q.cls q.bay start n q.tier
        let lo := minusTicks start c.lead
        let fin := plusTicks start v.length
        let tier := if v.tier = 0 then Tier.standard else Tier.priority
        let duplicate := (∃ w ∈ s.walkups, w.token = q.token) ∨ ∃ r ∈ s.book, r.token = q.token
          ∧ intersects lo (plusTicks (plusTicks start n) c.turnover) r.holdBegin r.intervalEnd = true
        let fits := (∀ b, q.bay = some b → s.bayFits b none lo (plusTicks fin c.turnover) = true)
          ∧ s.classFits q.cls tier none lo (plusTicks fin c.turnover) = true
        (duplicate → exec .book s = .next (s.answer f tag .duplicate .none))
        ∧ (∀ reason, ¬ duplicate → v.refusal = some reason →
            exec .book s = .next (s.answer f tag .refusedPolicy (.policyRefusal reason v.index)))
        ∧ (¬ duplicate → v.refusal = none → s.freeSlot = none →
            exec .book s = .next (s.answer f tag .bookFull .none))
        ∧ ∀ slot, ¬ duplicate → v.refusal = none → v.tier ≤ 1 → s.freeSlot = some slot →
          (¬ fits → exec .book s = .next (s.answer f tag .noFit .none))
          ∧ (fits →
            let h := s.genOf slot * 512 + slot
            let result : Result := if v.length < q.length then .clamped else .ok
            let record : Reservation := {
              handle := h, token := q.token, cls := q.cls, bay := q.bay, tier := tier, start := start,
              length := v.length, holdBegin := lo, endTick := fin,
              intervalEnd := plusTicks fin c.turnover, order := s.nextOrder, state := .booked, arrived := false,
              overstay := false, interrupted := false, reseats := 0, captures := Captures.none, energy := none,
              sessions := 0 }
            (diff s.clock lo < 0 →
              exec .book s = .next (State.answer
                { s with book := insertBy bookBefore record s.book, nextOrder := s.nextOrder + 1 }
                f tag result (.book h v.length tier lo 0 (q.bay.getD 255))))
            ∧ (0 ≤ diff s.clock lo → 0 < diff (plusTicks start c.grace) s.clock →
              let moved : Bool := match q.bay with
                | some b => decide ((s.bay b).state ≠ .free)
                | none => false
              let record' : Reservation := { record with reseats := if moved then 1 else 0 }
              let target := match q.bay with
                | some b => if (s.bay b).state = .free then some b else s.select record (some b)
                | none => s.select record none
              let control (body : ReplyBody) : Control := { s.control with
                sQueue := rest, replies := s.sp.replies ++ [f.reply (s.sp.nextId + 1) tag result body] }
              (∀ b, target = some b →
                ∃ t, exec .book s = .next t ∧ t.control = control (.book h v.length tier lo 1 b)
                  ∧ t.level = { s.level with
                      book := insertBy bookBefore (record'.heldOn b s.clock) s.book
                      nextOrder := s.nextOrder + 1
                      waiting := s.waiting.filter fun w => w != h }
                  ∧ t.bay b = s.bayHeldFor b record ∧ s.OthersKept t b
                  ∧ t.sp.notices = s.noticesWith (if moved then
                      .reseated h q.token q.cls b start (plusTicks start c.grace) false
                    else .holdBegun h q.token q.cls b start (plusTicks start c.grace) false))
              ∧ (target = none →
                ∃ t, exec .book s = .next t ∧ t.control = control (.book h v.length tier lo 2 255)
                  ∧ t.level = { s.level with
                      book := insertBy bookBefore { record' with state := .waitingBay, bay := none } s.book
                      nextOrder := s.nextOrder + 1
                      waiting := s.waitInsert record s.waiting }
                  ∧ (∀ d, (t.bay d).sansLamp = (s.bay d).sansLamp)
                  ∧ t.sp.notices = s.noticesWith (.holdWaiting h q.token q.cls start record'.reseats .noBay)))))

/-- AMEND (R56 to R58). The first check that fails gives the reply: UNKNOWN_HANDLE, BAD_FIELD, OK with no change when both
fields are unchanged, WRONG_STATE, BEYOND_HORIZON or TOO_LATE, DUPLICATE, NO_FIT. The length, given or kept, is cut to
max_length, and the end of a record in session that is not ahead is cut to now; the reply is then CLAMPED, unless the end was
now exactly. A request that passes gives the record its new window, in its place in book order. Of a BOOKED record whose
hold-begin still lies ahead, and of a HELD record, which keeps its GRACE timer, that is all; a BOOKED record that is due is
then taken as HOLD_BEGIN takes it. Of a record that holds a bay a WINDOW_END timer is rewritten at the new end, and an
OVERSTAY timer at the new end plus the class overstay (R34); a deadline that is not ahead is expired at once, after the
request. The reply carries the record as it then stands. That an unchanged AMEND carries it too is deduced
(notes/assumptions/19); the length of a record cut to now is stated where the field can hold it (notes/assumptions/2). Where
the keys of R42 order the book in a cycle, the record's place is the model's choice (notes/assumptions/59). -/
def Obligations.AmendMovesTheWindow : Prop :=
  ∀ (s : State) (f : Frame) (rest : List Frame) (tag : Nat) (q : AmendReq), s.Takes f rest Kind.amend tag →
    parseAmend f.payload = some q → s.LevelInv →
    (s.find q.handle = none → exec .amend s = .next (s.answer f tag .unknownHandle .none))
    ∧ ∀ r, s.find q.handle = some r →
      let bad := (∃ t, q.start = some t ∧ 1048575 < t) ∨ ∃ n, q.length = some n ∧ n < 6
      let wrong := (q.start ≠ none ∧ r.state ≠ .booked) ∨ (q.length ≠ none ∧ r.state = .waitingBay)
      let seated := r.state = .seated ∨ r.state = .charging ∨ r.state = .parked
      let start := match q.start with | some t => BitVec.ofNat 20 t | none => r.start
      let c := s.classOf r.cls
      let given := q.length.getD r.length
      let n := min given s.settings.maxLength
      let fin := plusTicks start n
      let lo := minusTicks start c.lead
      let inTime := q.start = none
        ∨ (diff start s.clock ≤ (s.settings.horizon : Int) ∧ diff s.clock (plusTicks start c.grace) < 0)
      let code := (r.bay.getD 255)
      (bad → exec .amend s = .next (s.answer f tag .badField .none))
      ∧ (q.start = none → q.length = none → exec .amend s = .next (s.answer f tag .ok
          (.amend r.start r.length r.endTick r.holdBegin r.state.code code)))
      ∧ (¬ bad → wrong → exec .amend s = .next (s.answer f tag .wrongState .none))
      ∧ (¬ bad → ¬ wrong → q.start ≠ none → (s.settings.horizon : Int) < diff start s.clock →
          exec .amend s = .next (s.answer f tag .beyondHorizon .none))
      ∧ (¬ bad → ¬ wrong → q.start ≠ none → diff start s.clock ≤ (s.settings.horizon : Int) →
          0 ≤ diff s.clock (plusTicks start c.grace) → exec .amend s = .next (s.answer f tag .tooLate .none))
      ∧ (¬ bad → ¬ wrong → q.length ≠ none → r.state = .held → 0 ≤ diff s.clock fin →
          exec .amend s = .next (s.answer f tag .tooLate .none))
      ∧ (¬ bad → ¬ wrong → q.start ≠ none ∨ q.length ≠ none → inTime →
        ∀ (n' : Nat) (fin' : Tick) (cut : Bool),
          (diff s.clock fin < 0 ∨ r.state = .booked) ∧ n' = n ∧ fin' = fin ∧ cut = decide (n < given)
            ∨ seated ∧ 0 ≤ diff s.clock fin ∧ 0 ≤ diff s.clock start ∧ diff s.clock start ≤ 65535
              ∧ n' = (diff s.clock start).toNat ∧ fin' = s.clock ∧ cut = decide (n < given ∨ 0 < diff s.clock fin) →
        let hi := plusTicks fin' c.turnover
        let result : Result := if cut = true then .clamped else .ok
        let new : Reservation := { r with
          start := start, length := n', holdBegin := lo, endTick := fin', intervalEnd := hi }
        let book := if lo = r.holdBegin then s.bookWith r.handle fun _ => new
          else insertBy bookBefore new (s.book.filter fun x => x.handle != r.handle)
        let twice := ∃ x ∈ s.book, x.token = r.token ∧ x.handle ≠ r.handle
          ∧ intersects lo hi x.holdBegin x.intervalEnd = true
        let fits := (∀ b, r.bay = some b → s.bayFits b (some r.handle) lo hi = true)
          ∧ s.classFits r.cls r.tier (some r.handle) lo hi = true
        let amended : State := { s with book := book }
        let body : ReplyBody := .amend start n' fin' lo r.state.code code
        (twice → exec .amend s = .next (s.answer f tag .duplicate .none))
        ∧ (¬ twice → ¬ fits → exec .amend s = .next (s.answer f tag .noFit .none))
        ∧ (¬ twice → fits → r.state = .booked → diff s.clock lo < 0 →
          exec .amend s = .next (amended.answer f tag result body))
        ∧ (¬ twice → fits → r.state = .booked →
          book.find? (fun x => decide (x.state = .booked) && decide (0 ≤ diff s.clock x.holdBegin)) = some new →
          ∃ t, exec .holdBegin amended = .next t
            ∧ exec .amend s = .next (t.answer f tag result
                (.amend start n' fin' lo (t.stateCodeOf r.handle) (t.bayCodeOf r.handle))))
        ∧ (¬ twice → fits → ∀ b, r.state = .held ∨ seated → r.bay = some b → b < 128 →
          (fin' = r.endTick ∨ ∀ d p, (s.bay b).timer = .running d p → p ≠ .windowEnd ∧ p ≠ .overstay) →
          exec .amend s = .next (amended.answer f tag result body))
        ∧ (¬ twice → fits → ∀ b d p, r.state = .held ∨ seated → r.bay = some b → b < 128 → fin' ≠ r.endTick →
          (s.bay b).timer = .running d p → p = .windowEnd ∨ p = .overstay →
          let late := if p = .windowEnd then fin' else plusTicks fin' (s.bayClass b).overstay
          let rewritten := amended.setBay b { s.bay b with timer := .running late p }
          (0 < diff late s.clock → exec .amend s = .next (rewritten.answer f tag result body))
          ∧ (diff late s.clock ≤ 0 →
            let t := rewritten.finished ⟨[b], false, []⟩
            exec .amend s = .next (t.answer f tag result
              (.amend start n' fin' lo (t.stateCodeOf r.handle) (t.bayCodeOf r.handle))))))

/-- CANCEL (R60). A stale handle is UNKNOWN_HANDLE and a record in session is IN_SESSION. A BOOKED or WAITING_BAY record is
closed CANCELLED. A HELD one has its bay released first: timer and holder dropped, FREE, LAMP owed. Nobody waits for a bay
here. -/
def Obligations.CancelClosesTheRecord : Prop :=
  ∀ (s : State) (f : Frame) (rest : List Frame) (tag h : Nat), s.Takes f rest Kind.cancel tag →
    parseHandle f.payload = some h → s.work = Work.none →
    (s.find h = none → exec .cancel s = .next (s.answer f tag .unknownHandle .none))
    ∧ ∀ r, s.find h = some r →
      let closed (bay : Option Nat) : NoticeBody := .closed {
        handle := h, token := r.token, cls := r.cls, tier := r.tier, reason := .cancelled, bay := bay,
        captures := r.captures, energy := r.energy, sessions := r.sessions, interrupted := r.interrupted,
        dwell := 0 }
      let control : Control := { s.control with
        sQueue := rest, replies := s.sp.replies ++ [f.reply (s.sp.nextId + 1) tag .ok (.closed .cancelled)] }
      (r.state = .seated ∨ r.state = .charging ∨ r.state = .parked →
        exec .cancel s = .next (s.answer f tag .inSession .none))
      ∧ (r.state = .booked ∨ r.state = .waitingBay →
        ∃ t, exec .cancel s = .next t ∧ t.control = control ∧ t.level = s.levelWithout h
          ∧ (∀ b, (t.bay b).sansLamp = (s.bay b).sansLamp) ∧ t.sp.notices = s.noticesWith (closed none))
      ∧ (∀ b, r.state = .held → r.bay = some b → b < 128 → (s.bay b).state = .held → s.NobodyWaits →
        ∃ t, exec .cancel s = .next t ∧ t.control = control ∧ t.level = s.levelWithout h
          ∧ t.bay b = { s.bay b with
              timer := .none, holder := none, occupant := none, state := .free, lamp := true }
          ∧ s.OthersKept t b ∧ t.sp.notices = s.noticesWith (closed (some b)))

/-- ENTRY (R90, R91). A token of 0 is BAD_FIELD and an UNSET clock NOT_READY. A token with no record whose interval contains
now, and no BOOKED one within its class's early window, is answered NO_MATCH. A HELD record's first arrival sets the arrived
flag, captures arrived_at, turns the lamp of its bay to GUIDE and queues ARRIVED; the reply carries its handle, state and
bay. An early arrival of a BOOKED record, the only one of its token, is placed at once, HELD with HOLD_BEGUN, on its own bay
if that is FREE and its free run covers the need, or, class-bound, on the bay that selection gives; else it stays BOOKED;
either way it is marked arrived, with ARRIVED after. A second arrival changes nothing (the model's choice,
notes/assumptions/26). That a token of 0 comes before an UNSET clock is the model's choice (notes/assumptions/47). -/
def Obligations.EntryMarksTheArrival : Prop :=
  ∀ (s : State) (f : Frame) (rest : List Frame) (tag token : Nat), s.Takes f rest Kind.entry tag →
    parseToken f.payload = some token → s.LevelInv →
    (token = 0 → exec .entry s = .next (s.answer f tag .badField .none))
    ∧ (token ≠ 0 → s.clockSet = false → exec .entry s = .next (s.answer f tag .notReady .none))
    ∧ (token ≠ 0 → s.clockSet = true →
      let early (r : Reservation) := r.state = .booked ∧ 0 < diff r.holdBegin s.clock
        ∧ diff r.holdBegin s.clock ≤ ((s.classOf r.cls).early : Int)
      let control (body : ReplyBody) (id : Nat) : Control := { s.control with
        sQueue := rest, replies := s.sp.replies ++ [f.reply id tag .ok body] }
      let arrives (r : Reservation) : Reservation := { r with
        arrived := true
        captures := { r.captures with arrivedAt := some (r.captures.arrivedAt.getD s.clock) } }
      ((∀ r ∈ s.book, r.token = token → inInterval s.clock r.holdBegin r.intervalEnd = false ∧ ¬ early r) →
        exec .entry s = .next (s.answer f tag .ok .entryNoMatch))
      ∧ (∀ r, s.book.find? (fun r => r.token == token && inInterval s.clock r.holdBegin r.intervalEnd) = some r →
        (r.arrived = true →
          exec .entry s = .next (s.answer f tag .ok (.entryMatch r.handle r.state.code (r.bay.getD 255))))
        ∧ ∀ b, r.arrived = false → r.state = .held → r.bay = some b → b < 128 → (s.bay b).state = .held →
          (s.bay b).holder = some r.handle →
          ∃ t, exec .entry s = .next t ∧ t.control = control (.entryMatch r.handle 1 b) (s.sp.nextId + 1)
            ∧ t.level = { s.level with book := s.bookWith r.handle arrives }
            ∧ t.bay b = { s.bay b with lamp := true } ∧ s.OthersKept t b
            ∧ t.sp.notices = s.noticesWith (.arrived r.handle r.token .held (some b)))
      ∧ ∀ r ∈ s.book, r.token = token → (∀ q ∈ s.book, q.token = token → q = r) → early r → r.arrived = false →
        0 < diff (plusTicks r.start (s.classOf r.cls).grace) s.clock →
        let covered (b : Nat) := ∀ n, s.freeRun? b (some r.handle) = some n → diff r.intervalEnd s.clock ≤ (n : Int)
        let stays := (∃ b, r.bay = some b ∧ ¬ ((s.bay b).state = .free ∧ covered b))
          ∨ (r.bay = none ∧ s.select r none = none)
        (∀ b, (r.bay = some b ∧ b < 128 ∧ (s.bay b).state = .free ∧ covered b)
            ∨ (r.bay = none ∧ s.select r none = some b) →
          ∃ t, exec .entry s = .next t ∧ t.control = control (.entryMatch r.handle 1 b) (s.sp.nextId + 2)
            ∧ t.level = { s.level with
                book := s.bookWith r.handle fun q => arrives (q.heldOn b s.clock)
                waiting := s.waiting.filter fun w => w != r.handle }
            ∧ t.bay b = s.bayHeldFor b r ∧ s.OthersKept t b
            ∧ t.sp.notices = ((s.sp.queueNotice s.clock (.holdBegun r.handle token r.cls b r.start
                  (plusTicks r.start (s.classOf r.cls).grace) false)).queueNotice s.clock
                  (.arrived r.handle token .held (some b))).notices)
        ∧ (stays →
          ∃ t, exec .entry s = .next t
            ∧ t.control = control (.entryMatch r.handle 0 (r.bay.getD 255)) (s.sp.nextId + 1)
            ∧ t.level = { s.level with book := s.bookWith r.handle arrives }
            ∧ (∀ d, (t.bay d).sansLamp = (s.bay d).sansLamp)
            ∧ t.sp.notices = s.noticesWith (.arrived r.handle token .booked r.bay)))

/-! ### The walk-up service -/

/-- WALKUP (R111 to R115). The first check that fails gives the reply: NOT_READY, BAD_FIELD, DUPLICATE for a token with a
live record or an entry, REFUSED_POLICY with reason and deciding index, BOOK_FULL. When no bay serves a walk-up that passes
them, it joins the tail of the walk-up queue with its expiry, or is LEVEL_FULL when 32 wait. Otherwise it is given the bay
that R112 picks, the one with the longest free run, then the lower floor sum of its branch, then the lower number: a WALKUP
record is made, arrived, and HELD on that bay with GRACE armed, and WALKUP_ASSIGNED and HOLD_BEGUN are queued. The body of
REFUSED_POLICY is deduced (notes/assumptions/12). Where the keys of R42 order the book in a cycle, the record's place is the
model's choice (notes/assumptions/59). -/
def Obligations.WalkupIsAssignedOrQueued : Prop :=
  ∀ (s : State) (f : Frame) (rest : List Frame) (tag token mask : Nat), s.Takes f rest Kind.walkup tag →
    parseWalkup f.payload = some (token, mask) → s.work = Work.none →
    let ready := s.clockSet = true ∧ ∃ b < 128, (s.bay b).state ≠ .out
    let good := token ≠ 0 ∧ mask ≠ 0 ∧ ∀ c < 16, mask.testBit c = true → (s.cls c).isSome = true
    let known := (∃ r ∈ s.book, r.token = token) ∨ ∃ w ∈ s.walkups, w.token = token
    let v := s.evaluateWalkup token mask
    let stay := v.length
    let serves b := b < 128 ∧ (s.bay b).loaded = true ∧ (s.bay b).state = .free
      ∧ mask.testBit (s.bay b).cls = true ∧ s.walkupRun b = true
    (¬ ready → exec .walkup s = .next (s.answer f tag .notReady .none))
    ∧ (ready → ¬ good → exec .walkup s = .next (s.answer f tag .badField .none))
    ∧ (ready → good → known → exec .walkup s = .next (s.answer f tag .duplicate .none))
    ∧ (∀ reason, ready → good → ¬ known → v.refusal = some reason →
        exec .walkup s = .next (s.answer f tag .refusedPolicy (.policyRefusal reason v.index)))
    ∧ (ready → good → ¬ known → v.refusal = none → s.freeSlot = none →
        exec .walkup s = .next (s.answer f tag .bookFull .none))
    ∧ ∀ slot, ready → good → ¬ known → v.refusal = none → s.freeSlot = some slot →
      ((∀ b, ¬ serves b) → s.walkups.length < 32 →
        let expiry := plusTicks s.clock s.settings.walkupPatience
        exec .walkup s = .next (State.answer
          { s with walkups := s.walkups ++ [⟨token, mask, stay, s.clock, expiry⟩] }
          f tag .queued (.queued (s.walkups.length + 1) expiry)))
      ∧ ((∀ b, ¬ serves b) → 32 ≤ s.walkups.length →
        exec .walkup s = .next (s.answer f tag .levelFull .none))
      ∧ ∀ b, serves b →
        let run x := saturate (s.freeRun? x none)
        let sum x := s.floorSum (s.bay x).branch
        (∀ c, serves c → run c < run b ∨ (run c = run b ∧ (sum b < sum c ∨ (sum b = sum c ∧ b ≤ c)))) →
        let c := s.bayClass b
        let h := s.genOf slot * 512 + slot
        let n := min stay (run b - c.turnover)
        let fin := plusTicks s.clock n
        let grace := plusTicks s.clock c.grace
        c.inRange = true →
        ∃ t, exec .walkup s = .next t
          ∧ t.control = { s.control with
              sQueue := rest
              replies := s.sp.replies
                ++ [f.reply (s.sp.nextId + 2) tag .ok (.assigned h b (s.bay b).cls n grace)] }
          ∧ t.level = { s.level with
              book := insertBy bookBefore {
                handle := h, token := token, cls := (s.bay b).cls, bay := some b, tier := .walkup, start := s.clock,
                length := n, holdBegin := minusTicks s.clock c.lead, endTick := fin,
                intervalEnd := plusTicks fin c.turnover, order := s.nextOrder, state := .held, arrived := true,
                overstay := false, interrupted := false, reseats := 0,
                captures := { Captures.none with heldAt := some s.clock, arrivedAt := some s.clock }, energy := none,
                sessions := 0 } s.book
              waiting := s.waiting.filter fun w => w != h
              nextOrder := s.nextOrder + 1 }
          ∧ t.bay b = { s.bay b with
              holder := some h, state := .held, occupant := none, timer := s.armed? .grace grace, lamp := true }
          ∧ s.OthersKept t b
          ∧ t.sp.notices = ((s.sp.queueNotice s.clock
                (.walkupAssigned h token (s.bay b).cls b s.clock n .request none)).queueNotice s.clock
                (.holdBegun h token (s.bay b).cls b s.clock grace true)).notices

/-- WALKUP_EXPIRED (R117): the first entry from the head whose expiry is at or before now leaves the queue, the entries
behind it move up, and WALKUP_EXPIRED is queued with its token, mask and enqueued_at; nothing else changes.
WALKUP_CANCEL (R118): a token of 0 is BAD_FIELD; the first entry with the token leaves the queue and the reply gives the
position it stood at, counted from 1; a token with no entry is UNKNOWN_HANDLE. One command takes one entry (the model's
choice, notes/assumptions/9), and an expiry exactly half the clock away reads as not reached (notes/assumptions/44). -/
def Obligations.WalkupEntriesLeaveTheQueue : Prop :=
  (∀ (s : State) (before after : List WalkEntry) (w : WalkEntry), s.walkups = before ++ w :: after →
    (∀ x ∈ before, diff s.clock x.expiry < 0 ∧ x.token ≠ w.token) → 0 ≤ diff s.clock w.expiry →
    exec .walkupExpired s = .next { s with
      walkups := before ++ after
      sp := s.sp.queueNotice s.clock (.walkupExpired w.token w.mask w.enqueuedAt) })
  ∧ ∀ (s : State) (f : Frame) (rest : List Frame) (tag token : Nat), s.Takes f rest Kind.walkupCancel tag →
    parseToken f.payload = some token →
    (token = 0 → exec .walkupCancel s = .next (s.answer f tag .badField .none))
    ∧ (token ≠ 0 → (∀ w ∈ s.walkups, w.token ≠ token) →
        exec .walkupCancel s = .next (s.answer f tag .unknownHandle .none))
    ∧ ∀ (before after : List WalkEntry) (w : WalkEntry), token ≠ 0 → s.walkups = before ++ w :: after →
        w.token = token → (∀ x ∈ before, x.token ≠ token) →
        exec .walkupCancel s = .next (State.answer { s with walkups := before ++ after } f tag .ok
          (.position (before.length + 1)))

/-! ### The queries and the relay -/

/-- The four queries (R21, R62, R192, R193) answer with what they read and change nothing, but that QUERY_PORT clears
the overrun flag it has read. A bay outside 0..127 or a port other than B and S is BAD_FIELD, a stale handle
UNKNOWN_HANDLE. The record carries its booking order as fixed at insertion (R40); that it counts from 1 is the model's choice
(notes/assumptions/17). -/
def Obligations.QueriesOnlyRead : Prop :=
  (∀ (s : State) (f : Frame) (rest : List Frame) (tag b : Nat), s.Takes f rest Kind.queryBay tag →
    parseByte f.payload = some b →
    exec .queryBay s = .next (if b < 128 then s.answer f tag .ok (.bay (s.bay b) (s.lampMode b))
      else s.answer f tag .badField .none))
  ∧ (∀ (s : State) (f : Frame) (rest : List Frame) (tag h : Nat), s.Takes f rest Kind.queryReservation tag →
    parseHandle f.payload = some h →
    (s.find h = none → exec .queryReservation s = .next (s.answer f tag .unknownHandle .none))
    ∧ ∀ (before after : List Reservation) (r : Reservation), s.book = before ++ r :: after → r.handle = h →
      (∀ x ∈ before, x.handle ≠ h) → (∀ w ∈ s.waiting, w ≠ h) →
      exec .queryReservation s = .next (s.answer f tag .ok
        (.reservation r (before.length + 1) none)))
  ∧ (∀ (s : State) (f : Frame) (rest : List Frame) (tag code : Nat), s.Takes f rest Kind.queryPort tag →
    parseByte f.payload = some code →
    (code = 0 → exec .queryPort s = .next (State.answer
        { s with bp := { s.bp with link := { s.bp.link with overrun := false } } } f tag .ok
        (.bPort s.bp.link s.bp.rxq.length s.bSlotCodes s.bp.relay.length s.bp.outage)))
    ∧ (code = 1 → exec .queryPort s = .next (State.answer
        { s with sp := { s.sp with link := { s.sp.link with overrun := false } } } f tag .ok
        (.sPort s.sp.link rest.length s.sSlotCodes s.sp.replies.length s.sp.notices.length s.sp.gapPending)))
    ∧ (2 ≤ code → exec .queryPort s = .next (s.answer f tag .badField .none)))
  ∧ ∀ (s : State) (f : Frame) (rest : List Frame) (tag : Nat), s.Takes f rest Kind.queryPart tag →
    f.payload.length = 2 →
    exec .queryPart s = .next (s.answer f tag .ok
      (.part s.clock s.phase s.clockSet s.book.length s.inServiceCount s.walkups.length s.armed
        s.settings.mgmtNode s.settings.partAddress))

/-- POST_DISPLAY and POST_CONFIG (R187): a target that is no loaded bay's post address is BAD_FIELD, a full relay queue is
RELAY_BUSY, and otherwise the frame joins the tail of the relay queue with its kind, target and bytes, and the reply gives
its place, counted from 1 (the model's choice, notes/assumptions/58). -/
def Obligations.RelayFramesJoinTheRelayQueue : Prop :=
  ∀ (c : Instr) (k : Nat) (s : State) (f : Frame) (rest : List Frame) (tag target : Nat) (bytes : List Byte),
    (c = .postDisplay ∧ k = 0x20) ∨ (c = .postConfig ∧ k = 0x21) → s.Takes f rest k tag →
    parseRelay f.payload = some (target, bytes) →
    ((∀ b < 128, (s.bay b).loaded = true → (s.bay b).post ≠ target) →
        exec c s = .next (s.answer f tag .badField .none))
    ∧ (∀ b < 128, (s.bay b).loaded = true → (s.bay b).post = target →
      (8 ≤ s.bp.relay.length → exec c s = .next (s.answer f tag .relayBusy .none))
      ∧ (s.bp.relay.length < 8 → exec c s = .next (State.answer
          { s with bp := { s.bp with relay := s.bp.relay ++ [⟨k, target, bytes⟩] } } f tag .ok
          (.position (s.bp.relay.length + 1)))))

/-! ### The management requests -/

/-- LOAD_BAY (R2, R4) and LOAD_CLASS (R6). A LOAD_BAY whose fields are in range, whose class is valid, whose neighbours are
two other bays, whose bay is OUT and whose post no other loaded bay has, writes the map entry; a loaded bay whose post
changes loses every owed mark, and one whose class changes has its BOOKED records rebound to the class. A LOAD_CLASS whose
fields are in range writes the entry unless a loaded bay of the class is energised. Nothing else changes. -/
def Obligations.LoadsWriteTheMapAndTheClasses : Prop :=
  (∀ (s : State) (f : Frame) (rest : List Frame) (tag : Nat) (q : LoadBayReq), s.Takes f rest Kind.loadBay tag →
    parseLoadBay f.payload = some q →
    q.bay < 128 → 1 ≤ q.post ∧ q.post ≤ 200 → q.branch < 8 → 1 ≤ q.cls ∧ q.cls ≤ 15 →
    (∀ n, q.left = some n ∨ q.right = some n → n < 128 ∧ n ≠ q.bay) → (q.left.isSome = true → q.left ≠ q.right) →
    (s.cls q.cls).isSome = true →
    let x := s.bay q.bay
    let busy := ∃ b < 128, b ≠ q.bay ∧ (s.bay b).loaded = true ∧ (s.bay b).post = q.post
    let m : MapEntry := ⟨q.post, q.branch, q.cls, q.left, q.right⟩
    (x.state ≠ .out ∨ busy → exec .loadBay s = .next (s.answer f tag .inUse .none))
    ∧ (x.state = .out → ¬ busy → exec .loadBay s = .next (State.answer
        { s.setBay q.bay (if x.loaded = true ∧ x.post ≠ q.post then
              { x with map := some m, power := none, access := none, lamp := false, query := false }
            else { x with map := some m }) with
          book := if x.loaded = true ∧ x.cls ≠ q.cls then
              s.book.map fun r => if r.state = .booked ∧ r.bay = some q.bay then { r with bay := none } else r
            else s.book }
        f tag .ok .none)))
  ∧ ∀ (s : State) (f : Frame) (rest : List Frame) (tag c : Nat) (e : ClassEntry), s.Takes f rest Kind.loadClass tag →
    parseLoadClass f.payload = some (c, e) →
    let good := 1 ≤ c ∧ c ≤ 15 ∧ e.inRange = true
    let energised := ∃ b < 128, (s.bay b).loaded = true ∧ (s.bay b).cls = c
      ∧ ((s.bay b).state = .starting ∨ (s.bay b).state = .charging)
    (¬ good → exec .loadClass s = .next (s.answer f tag .badField .none))
    ∧ (good → energised → exec .loadClass s = .next (s.answer f tag .inUse .none))
    ∧ (good → ¬ energised → ∃ t, exec .loadClass s = .next (State.answer t f tag .ok .none)
        ∧ t.cls c = some e ∧ (∀ d, d ≠ c → t.cls d = s.cls d) ∧ t = { s with classes := t.classes })

/-- LOAD_POLICY (R67) and LOAD_PERIOD (R126). An index outside the table is BAD_FIELD; a load marked invalid empties the
entry; a valid one whose codes and argument, or whose start phase and budgets, are in range writes it. LOAD_PERIOD is ARMED
while a commit is armed, and IN_USE for a start phase that another place of the staged copy has. -/
def Obligations.LoadsWriteThePolicyAndTheSchedule : Prop :=
  (∀ (s : State) (f : Frame) (rest : List Frame) (tag : Nat) (q : LoadPolicyReq), s.Takes f rest Kind.loadPolicy tag →
    parseLoadPolicy f.payload = some q →
    (64 ≤ q.index → exec .loadPolicy s = .next (s.answer f tag .badField .none))
    ∧ (q.index < 64 → q.valid = false → exec .loadPolicy s = .next (State.answer
        { s with policy := s.policy.setIfInBounds q.index none } f tag .ok .none))
    ∧ (q.index < 64 → q.valid = true →
      (10 < q.field ∨ 12 < q.condition ∨ 4 < q.action → exec .loadPolicy s = .next (s.answer f tag .badField .none))
      ∧ ∀ fl co ac, PolicyField.ofCode q.field = some fl → Condition.ofCode q.condition = some co →
        PolicyAction.ofCode q.action = some ac →
        let good := match ac with
          | .accept | .skip => True
          | .refuse => 1 ≤ q.argument ∧ q.argument ≤ 15
          | .clampLength => 6 ≤ q.argument ∧ q.argument ≤ 65535
          | .setTier => q.argument ≤ 1
        (¬ good → exec .loadPolicy s = .next (s.answer f tag .badField .none))
        ∧ (good → exec .loadPolicy s = .next (State.answer
            { s with policy := s.policy.setIfInBounds q.index (some ⟨fl, co, q.constant, ac, q.argument⟩) }
            f tag .ok .none))))
  ∧ ∀ (s : State) (f : Frame) (rest : List Frame) (tag : Nat) (q : LoadPeriodReq), s.Takes f rest Kind.loadPeriod tag →
    parseLoadPeriod f.payload = some q →
    let ranges := q.start < 8640 ∧ q.level ≤ 4000 ∧ ∀ n ∈ q.branch.toList, n ≤ 1000
    let taken := ∃ j p, j < 16 ∧ j ≠ q.index ∧ s.staged[j]? = some (some p) ∧ p.start = q.start
    (s.armed = true → exec .loadPeriod s = .next (s.answer f tag .armed .none))
    ∧ (s.armed = false → 16 ≤ q.index → exec .loadPeriod s = .next (s.answer f tag .badField .none))
    ∧ (s.armed = false → q.index < 16 → q.valid = false → exec .loadPeriod s = .next (State.answer
        { s with staged := s.staged.setIfInBounds q.index none } f tag .ok .none))
    ∧ (s.armed = false → q.index < 16 → q.valid = true →
      (¬ ranges → exec .loadPeriod s = .next (s.answer f tag .badField .none))
      ∧ (ranges → taken → exec .loadPeriod s = .next (s.answer f tag .inUse .none))
      ∧ (ranges → ¬ taken → exec .loadPeriod s = .next (State.answer
          { s with staged := s.staged.setIfInBounds q.index (some ⟨q.start, q.level, q.branch⟩) } f tag .ok .none)))

/-- COMMIT_SCHEDULE (R127) and SCHEDULE_SWITCH (R128). A withdraw clears the armed flag. A commit arms the schedule when
the active copy holds a period, and switches at once when it holds none; a second commit changes nothing. The switch
copies the staged schedule to the active one, clears the armed flag, works the period in force from the day phase and
queues SCHEDULE_SWITCHED with its cause, the number of periods and the period in force; then comes the change of budgets
(R129): the shares are recomputed at the new budgets, with the pauses they call for, and the start queues are rescanned. The
share unit's sets are true there, and the end of every energised bay's record lies ahead. When the floors fit the new budgets
and nobody waits for power the recompute is all, and with nothing energised either the level is left as it was. That a switch
is due is the model's own marker (notes/assumptions/16). -/
def Obligations.ScheduleIsCommittedAndSwitched : Prop :=
  let switched (s : State) (cause : SwitchCause) : State := { s with
    active := s.staged
    armed := false
    switchDue := false
    inForce := periodAt s.staged s.phase
    sp := s.sp.queueNotice s.clock
      (.scheduleSwitched cause (periodsOf s.staged).length (periodAt s.staged s.phase)) }
  (∀ s : State, s.switchDue = true → s.armed = true → s.work = Work.none →
    (s.PortsInv → s.energised = [] → s.QueuesEmpty → exec .scheduleSwitch s = .next (switched s .boundary))
    ∧ (s.ShareInv → s.Sharing s.clock →
      exec .scheduleSwitch s = .next ((recompute (switched s .boundary)).finished Work.rescans)))
  ∧ (∀ (s : State) (f : Frame) (rest : List Frame) (tag : Nat) (withdraw : Bool),
    s.Takes f rest Kind.commitSchedule tag → parseCommit f.payload = some withdraw →
    (withdraw = true → s.switchDue = false → exec .commitSchedule s = .next (State.answer
        { s with armed := false } f tag .ok (.committed .withdrawn)))
    ∧ (withdraw = false → s.armed = true →
        exec .commitSchedule s = .next (s.answer f tag .ok (.committed .armed)))
    ∧ (withdraw = false → s.armed = false → periodsOf s.active ≠ [] → exec .commitSchedule s = .next (State.answer
        { s with armed := true } f tag .ok (.committed .armed)))
    ∧ (withdraw = false → s.armed = false → periodsOf s.active = [] → s.work = Work.none →
      (s.PortsInv → s.energised = [] → s.QueuesEmpty →
        exec .commitSchedule s = .next (State.answer (switched s .now) f tag .ok (.committed .switched)))
      ∧ (s.ShareInv → s.Sharing s.clock → exec .commitSchedule s = .next (State.answer
          ((recompute (switched s .now)).finished Work.rescans) f tag .ok (.committed .switched)))))
  ∧ ∀ v : State, v.FloorsFit → v.PortsInv → v.QueuesEmpty → v.work = Work.none →
    (recompute v).finished Work.rescans = recompute v
    ∧ (recompute v).control = v.control ∧ (recompute v).level = v.level ∧ (recompute v).sp = v.sp
    ∧ ∀ b, ((recompute v).bay b).sansMarks = ({ v.bay b with ceiling := ((recompute v).bay b).ceiling } : Bay).sansMarks

/-- SET_PARAM (R188, R189, 11.3): each numeric setting takes the value clamped to its range, each mode setting 0 or 1; an
unlisted code, or a mode value above 1, is BAD_FIELD; the setting of the code alone is written, a mode by its first listed
value for 0 and its second for 1; the reply gives the code and the value taken, CLAMPED when it is not the value given.
Setting b_recovery AUTO while the B-port waits in OFF takes the port to RECOVERING with PORT_STATE (R163). -/
def Obligations.SettingsAreClampedToTheirRanges : Prop :=
  (∀ v,
    Setting.applied .horizon v = some (max 360 (min 30240 v))
    ∧ Setting.applied .maxLength v = some (max 6 (min 65535 v))
    ∧ Setting.applied .statusPeriod v = some (max 1 (min 30 v))
    ∧ Setting.applied .silencePeriods v = some (max 2 (min 10 v))
    ∧ Setting.applied .sensorTolerance v = some (max 1 (min 60 v))
    ∧ Setting.applied .relayDivisor v = some (min 16 v)
    ∧ Setting.applied .walkupPatience v = some (max 6 (min 360 v))
    ∧ Setting.applied .walkupStay v = some (max 6 (min 4320 v))
    ∧ Setting.applied .mgmtNode v = some (max 1 (min 254 v))
    ∧ Setting.applied .partAddress v = some (max 1 (min 254 v))
    ∧ ∀ g, g = .bRxMode ∨ g = .sRxMode ∨ g = .bTxOrder ∨ g = .bRecovery ∨ g = .policyDefault →
        Setting.applied g v = if v ≤ 1 then some v else none)
  ∧ (∀ code, Setting.ofCode code = ([none, some .horizon, some .maxLength, some .statusPeriod, some .silencePeriods,
      some .sensorTolerance, some .relayDivisor, some .bRxMode, some .sRxMode, some .bTxOrder, some .bRecovery,
      some .policyDefault, some .walkupPatience, some .walkupStay, some .mgmtNode, some .partAddress][code]?).getD none)
  ∧ (∀ (v : Nat) (t : Settings),
    Setting.horizon.write v t = { t with horizon := v } ∧ Setting.maxLength.write v t = { t with maxLength := v }
    ∧ Setting.statusPeriod.write v t = { t with statusPeriod := v }
    ∧ Setting.silencePeriods.write v t = { t with silencePeriods := v }
    ∧ Setting.sensorTolerance.write v t = { t with sensorTolerance := v }
    ∧ Setting.relayDivisor.write v t = { t with relayDivisor := v }
    ∧ Setting.bRxMode.write v t = { t with bRxMode := if v = 0 then .keepOldest else .keepNewest }
    ∧ Setting.sRxMode.write v t = { t with sRxMode := if v = 0 then .keepOldest else .keepNewest }
    ∧ Setting.bTxOrder.write v t = { t with bTxOrder := if v = 0 then .priority else .fill }
    ∧ Setting.bRecovery.write v t = { t with bRecovery := if v = 0 then .auto else .manual }
    ∧ Setting.policyDefault.write v t = { t with policyDefault := if v = 0 then .accept else .refuse }
    ∧ Setting.walkupPatience.write v t = { t with walkupPatience := v }
    ∧ Setting.walkupStay.write v t = { t with walkupStay := v }
    ∧ Setting.mgmtNode.write v t = { t with mgmtNode := v }
    ∧ Setting.partAddress.write v t = { t with partAddress := v })
  ∧ ∀ (s : State) (f : Frame) (rest : List Frame) (tag code value : Nat), s.Takes f rest Kind.setParam tag →
    parseSetParam f.payload = some (code, value) →
    (code = 0 ∨ 15 < code → exec .setParam s = .next (s.answer f tag .badField .none))
    ∧ ∀ g, Setting.ofCode code = some g →
      (g.applied value = none → exec .setParam s = .next (s.answer f tag .badField .none))
      ∧ ∀ v, g.applied value = some v →
        (¬ (g = .bRecovery ∧ v = 0 ∧ s.bp.link.state = .off) → exec .setParam s = .next (State.answer
            { s with settings := g.write v s.settings } f tag (if v = value then .ok else .clamped)
            (.setting code v)))
        ∧ (g = .bRecovery → v = 0 → s.bp.link.state = .off → exec .setParam s = .next (State.answer
            { s with
              settings := { s.settings with bRecovery := .auto }
              bp := { s.bp with link := { s.bp.link with state := .recovering, gaps := 0 } }
              sp := s.sp.queueNotice s.clock (.portState .b .recovering s.bp.link.tx s.bp.link.rx
                s.bp.link.lastError s.bp.link.overrun .state) }
            f tag .ok (.setting code 0)))

/-- CLOCK_SET (R26, R27) with nothing left to be taken and the period in force unchanged. With an empty book the clock
takes the given time and phase and is SET, and every running deadline and every walk-up entry's two times move by the
same shift; a frozen timer stays. With a live book the clock and the phase move by the shift clamped to 6 ticks either
way, no deadline moves, and the reply is CLAMPED when the shift was cut. A time or phase out of range is BAD_FIELD. What
the slew makes due is left to the commands that take it (notes/assumptions/9, 10, 16). -/
def Obligations.ClockSetMovesTheClock : Prop :=
  ∀ (s : State) (f : Frame) (rest : List Frame) (tag time phase : Nat), s.Takes f rest Kind.clockSet tag →
    parseClockSet f.payload = some (time, phase) →
    (1048575 < time ∨ 8640 ≤ phase → exec .clockSet s = .next (s.answer f tag .badField .none))
    ∧ (time ≤ 1048575 → phase < 8640 → s.NothingDue → s.work = Work.none →
      let now : Tick := BitVec.ofNat 20 time
      let d := diff now s.clock
      (s.book = [] → (periodAt s.active phase).map Period.start = s.inForce.map Period.start →
        exec .clockSet s = .next (State.answer
          { s with
            clock := now
            phase := phase
            clockSet := true
            inForce := periodAt s.active phase
            bays := s.bays.map fun x => { x with timer := match x.timer with
              | .running t p => .running (t + BitVec.ofInt 20 d) p
              | u => u }
            walkups := s.walkups.map fun w => { w with
              enqueuedAt := w.enqueuedAt + BitVec.ofInt 20 d
              expiry := w.expiry + BitVec.ofInt 20 d } }
          f tag .ok (.clock now phase d)))
      ∧ (s.book ≠ [] → d = 0 → exec .clockSet s = .next (s.answer f tag .ok (.clock s.clock s.phase 0)))
      ∧ (s.book ≠ [] → d ≠ 0 → s.armed = false →
        let c : Int := if d < -6 then -6 else if 6 < d then 6 else d
        let ph := ((s.phase + 8640 + c) % 8640).toNat
        let clk := s.clock + BitVec.ofInt 20 c
        (periodAt s.active ph).map Period.start = s.inForce.map Period.start →
        exec .clockSet s = .next (State.answer
          { s with
            clock := clk
            phase := ph
            inForce := periodAt s.active ph
            unservedDue := if 0 < c then s.waiting.filter ({ s with clock := clk } : State).unservedNow
              else s.unservedDue }
          f tag (if c = d then .ok else .clamped) (.clock clk ph c))))

/-- BAY_WITHDRAW (R16 to R18) and BAY_RESTORE (R19). An OUT bay is withdrawn with no change; a bay whose holder is seated is
IN_SESSION unless forced. Every other withdraw ends with the bay OUT, its occupant, holder, timer, proof and reconcile mark
dropped, BAY_STATE queued and its BOOKED records rebound to the class, with LAMP owed unless the bay's lamp mode was DARK. Of
a FREE or CLEARING bay, and of an OCCUPIED or SUSPECT one with no holder, that is all. Of a HELD bay the holder, its grace
ahead, is reseated first (R86). Forced on a bay whose holder is seated, the session is ended first, on a STARTING or CHARGING
bay with DEENERGISE WITHDRAWN and SESSION_END (floors that fit and no start waiting), on a WAITING_POWER bay out of its
queue, a paused one with SESSION_END, interrupted, and the rescan to follow; then the record is closed EVICTED and LOCKOUT
WITHDRAWN is owed. A loaded OUT bay is restored to CLEARING with its checks started afresh, SETTLE armed, QUERY owed and
BAY_STATE queued; any other is WRONG_STATE. That a paused session takes the energy of the last status too is deduced
(notes/assumptions/45). -/
def Obligations.BaysAreWithdrawnAndRestored : Prop :=
  (∀ (s : State) (f : Frame) (rest : List Frame) (tag b : Nat) (force : Bool), s.Takes f rest Kind.bayWithdraw tag →
    parseWithdraw f.payload = some (b, force) → s.work = Work.none →
    let x := s.bay b
    let control (id : Nat) : Control := { s.control with
      sQueue := rest, replies := s.sp.replies ++ [f.reply id tag .ok .none] }
    let rebound (rs : List Reservation) := rs.map fun r =>
      if r.state = .booked ∧ r.bay = some b then { r with bay := none } else r
    let out (y : Bay) : Bay := { y with
      state := .out, occupant := none, holder := none, timer := .none, proof := false, reconcile := false,
      silenceDue := false }
    let left : NoticeBody := .bayState b .out .withdrawn none
    (128 ≤ b → exec .bayWithdraw s = .next (s.answer f tag .badField .none))
    ∧ (b < 128 → x.state = .out → exec .bayWithdraw s = .next (s.answer f tag .ok .none))
    ∧ (b < 128 → force = false → x.holder ≠ none →
      (x.state = .occupied ∨ x.state = .waitingPower ∨ x.state = .starting
        ∨ x.state = .charging ∨ x.state = .parked ∨ x.state = .suspect) →
      exec .bayWithdraw s = .next (s.answer f tag .inSession .none))
    ∧ (b < 128 → x.state = .free ∨ x.state = .clearing
        ∨ (x.holder = none ∧ (x.state = .occupied ∨ x.state = .suspect)) →
      ∃ t, exec .bayWithdraw s = .next t ∧ t.control = control (s.sp.nextId + 1)
        ∧ t.level = { s.level with book := rebound s.book }
        ∧ t.bay b = { out x with lamp := if s.lampMode b = .dark then x.lamp else true }
        ∧ (∀ c, c ≠ b → t.bay c = s.bay c)
        ∧ t.sp.notices = s.noticesWith left)
    ∧ (∀ h r, s.LevelInv → b < 128 → x.state = .held → x.holder = some h → s.find h = some r →
      0 < diff (plusTicks r.start (s.classOf r.cls).grace) s.clock →
      ∃ t, exec .bayWithdraw s = .next t ∧ t.control = control (s.sp.nextId + 2)
        ∧ t.level = { s.levelReseated r b with book := rebound (s.levelReseated r b).book }
        ∧ t.bay b = { out x with lamp := true } ∧ s.OthersReseated t r b
        ∧ t.sp.notices = ((s.sp.queueNotice s.clock (s.reseatNotice r b)).queueNotice s.clock left).notices)
    ∧ ∀ h r, b < 128 → force = true → x.holder = some h → s.find h = some r →
      let energy := match x.status with | some st => some st.energy | none => r.energy
      let closed (r : Reservation) : NoticeBody := .closed {
        handle := h, token := r.token, cls := r.cls, tier := r.tier, reason := .evicted,
        bay := if r.state.holdsBay = true then r.bay else none, captures := r.captures, energy := r.energy,
        sessions := r.sessions, interrupted := r.interrupted, dwell := 0 }
      let evicted : Level := { s.levelWithout h with book := rebound (s.levelWithout h).book }
      let gone : Bay := { out x with access := some .withdrawn, lamp := true }
      (x.state = .occupied ∨ x.state = .parked ∨ x.state = .suspect →
        ∃ t, exec .bayWithdraw s = .next t ∧ t.control = control (s.sp.nextId + 2) ∧ t.level = evicted
          ∧ t.bay b = gone ∧ s.OthersKept t b
          ∧ t.sp.notices = ((s.sp.queueNotice s.clock (closed r)).queueNotice s.clock left).notices)
      ∧ (x.state = .starting ∨ x.state = .charging → s.FloorsFit → s.QueuesEmpty → s.PortsInv →
        let ended : Reservation := { r with
          state := .parked, energy := energy, captures := { r.captures with endedAt := some s.clock } }
        ∃ t, exec .bayWithdraw s = .next t ∧ t.control = control (s.sp.nextId + 3)
          ∧ t.level = { evicted with energised := s.energised.filter fun y => y.bay != b }
          ∧ t.bay b = { gone with ceiling := 0, power := some (.deenergise .withdrawn) }
          ∧ (∀ d, d ≠ b → (t.bay d).sansMarks = ({ s.bay d with ceiling := (t.bay d).ceiling } : Bay).sansMarks)
          ∧ t.sp.notices = (((s.sp.queueNotice s.clock (.sessionEnd h b energy r.sessions)).queueNotice s.clock
              (closed ended)).queueNotice s.clock left).notices)
      ∧ (x.state = .waitingPower →
        (∀ p ∈ s.queue x.branch, ∀ q ∈ s.queue x.branch, p.bay = b → q.bay = b → p = q) →
        let paused := ∃ q ∈ s.queue x.branch, q.bay = b ∧ q.paused.isSome = true
        let ended : Reservation := { r with
          energy := energy, interrupted := true, captures := { r.captures with endedAt := some s.clock } }
        ∃ u : State, exec .bayWithdraw s = .next (addReply f.source tag f.kind .ok .none (u.finished Work.rescans))
          ∧ u.control = { s.control with sQueue := rest }
          ∧ u.level = { evicted with
              queues := s.queues.setIfInBounds x.branch ((s.queue x.branch).filter fun q => q.bay != b) }
          ∧ u.bay b = gone ∧ s.OthersKept u b
          ∧ (¬ paused → u.sp.notices = ((s.sp.queueNotice s.clock (closed r)).queueNotice s.clock left).notices)
          ∧ (paused → u.sp.notices = (((s.sp.queueNotice s.clock (.sessionEnd h b energy r.sessions)).queueNotice
              s.clock (closed ended)).queueNotice s.clock left).notices)))
  ∧ ∀ (s : State) (f : Frame) (rest : List Frame) (tag b : Nat), s.Takes f rest Kind.bayRestore tag →
    parseByte f.payload = some b → s.work = Work.none →
    (128 ≤ b → exec .bayRestore s = .next (s.answer f tag .badField .none))
    ∧ (b < 128 → (s.bay b).loaded = false ∨ (s.bay b).state ≠ .out →
        exec .bayRestore s = .next (s.answer f tag .wrongState .none))
    ∧ (b < 128 → (s.bay b).loaded = true → (s.bay b).state = .out → (s.bayClass b).inRange = true →
      ∃ t, exec .bayRestore s = .next t
        ∧ t.control = { s.control with
            sQueue := rest, replies := s.sp.replies ++ [f.reply (s.sp.nextId + 1) tag .ok .none] }
        ∧ t.level = s.level
        ∧ t.bay b = { s.bay b with
            state := .clearing, strikes := 0, disagree := 0, silence := 0, relayCount := 0, status := none,
            statusTick := none, reconcile := false, silenceDue := false, query := true,
            timer := s.armed? .settle (plusTicks s.clock (s.bayClass b).settle) }
        ∧ (∀ c, c ≠ b → t.bay c = s.bay c)
        ∧ t.sp.notices = s.noticesWith (.bayState b .clearing .restored none))

/-- CHECK_PROOF (R153) and CLEAR_SUSPECT (R156). CHECK_PROOF sets the proof of any bay that is not OUT. CLEAR_SUSPECT of a
SUSPECT bay starts its checks afresh, forgets its status, owes QUERY and LAMP and queues BAY_STATE: without a holder it goes
to CLEARING with SETTLE armed; with a seated holder whose end lies ahead it goes PARKED, occupant HOLDER, with WINDOW_END
armed. -/
def Obligations.ProofIsSetAndSuspicionCleared : Prop :=
  (∀ (s : State) (f : Frame) (rest : List Frame) (tag b : Nat), s.Takes f rest Kind.checkProof tag →
    parseByte f.payload = some b →
    (128 ≤ b → exec .checkProof s = .next (s.answer f tag .badField .none))
    ∧ (b < 128 → (s.bay b).state = .out → exec .checkProof s = .next (s.answer f tag .wrongState .none))
    ∧ (b < 128 → (s.bay b).state ≠ .out → exec .checkProof s = .next (State.answer
        (s.setBay b { s.bay b with proof := true }) f tag .ok .none)))
  ∧ ∀ (s : State) (f : Frame) (rest : List Frame) (tag b : Nat), s.Takes f rest Kind.clearSuspect tag →
    parseByte f.payload = some b → s.work = Work.none →
    let cleared : Bay := { s.bay b with
      strikes := 0, disagree := 0, silence := 0, proof := false, status := none, statusTick := none,
      silenceDue := false, query := true, lamp := true }
    let control : Control := { s.control with
      sQueue := rest, replies := s.sp.replies ++ [f.reply (s.sp.nextId + 1) tag .ok .none] }
    (128 ≤ b → exec .clearSuspect s = .next (s.answer f tag .badField .none))
    ∧ (b < 128 → (s.bay b).state ≠ .suspect → exec .clearSuspect s = .next (s.answer f tag .wrongState .none))
    ∧ (b < 128 → (s.bay b).state = .suspect → (s.bay b).holder = none → (s.bayClass b).inRange = true →
      ∃ t, exec .clearSuspect s = .next t ∧ t.control = control ∧ t.level = s.level
        ∧ t.bay b = { cleared with
            state := .clearing, timer := s.armed? .settle (plusTicks s.clock (s.bayClass b).settle) }
        ∧ (∀ c, c ≠ b → t.bay c = s.bay c)
        ∧ t.sp.notices = s.noticesWith (.bayState b .clearing .cleared none))
    ∧ ∀ h r, b < 128 → (s.bay b).state = .suspect → (s.bay b).holder = some h → s.find h = some r →
      0 < diff r.endTick s.clock →
      ∃ t, exec .clearSuspect s = .next t ∧ t.control = control
        ∧ t.level = { s.level with book := s.bookWith h fun q => { q with state := .parked } }
        ∧ t.bay b = { cleared with
            state := .parked, occupant := some .holder, timer := .running r.endTick .windowEnd }
        ∧ (∀ c, c ≠ b → t.bay c = s.bay c)
        ∧ t.sp.notices = s.noticesWith (.bayState b .parked .cleared (some h))

/-- BOOK_CLEAR (R63): every record not in session leaves the book with no CLOSED notice, each slot's generation up by one;
every HELD bay goes FREE with LAMP owed; one BOOK_CLEARED carries the number, and so does the reply. No walk-up waits here,
every waiting record is one that is cleared, and the HELD bays are those of the HELD records. -/
def Obligations.BookClearKeepsTheSessions : Prop :=
  ∀ (s : State) (f : Frame) (rest : List Frame) (tag : Nat), s.Takes f rest Kind.bookClear tag →
    f.payload.length = 2 → s.LevelInv → s.walkups = [] →
    (∀ h ∈ s.waiting, ∃ r ∈ s.book, r.handle = h ∧ r.state = .waitingBay) →
    (∀ b < 128, (s.bay b).state = .held ↔ ∃ r ∈ s.book, r.state = .held ∧ r.bay = some b) →
    let session (r : Reservation) : Bool := r.state == .seated || r.state == .charging || r.state == .parked
    let n := (s.book.filter fun r => !session r).length
    ∃ t, exec .bookClear s = .next t
      ∧ t.control = { s.control with
          sQueue := rest, replies := s.sp.replies ++ [f.reply (s.sp.nextId + 1) tag .ok (.count n)] }
      ∧ t.level = { s.level with book := s.book.filter session, waiting := [], gens := t.gens }
      ∧ (∀ slot < 512, t.genOf slot =
          if ∃ r ∈ s.book, session r = false ∧ r.handle % 512 = slot then (s.genOf slot + 1) % 128 else s.genOf slot)
      ∧ (∀ b < 128, if (s.bay b).state = .held then
            t.bay b = { s.bay b with timer := .none, holder := none, occupant := none, state := .free, lamp := true }
          else (t.bay b).sansLamp = (s.bay b).sansLamp)
      ∧ t.sp.notices = s.noticesWith (.bookCleared n)

/-- PORT_CLEAR (R166, R191) and PART_RESET (R194). A PORT_CLEAR adds its reply first. On the B-port it aborts every filled
slot with its frame returned to owed, empties the receive queue, clears the counts, the last error and the overrun flag, and
sets the outage flag; the port goes JOINING, or RECOVERING when it was OFF or RECOVERING under b_recovery MANUAL; the relay
queue, the pointers and the fill numbers stay, and of the S-port only PORT_STATE and the reply are new. On the S-port it
aborts every filled slot, whose reply or notice keeps its place and starts again from segment 0, empties the receive queue,
clears the same, goes JOINING and queues PORT_STATE; all else stays. A PART_RESET adds its reply and becomes pending; the
S-port completing that reply's slot is the full reset. -/
def Obligations.PortClearAndPartReset : Prop :=
  (∀ (s : State) (f : Frame) (rest : List Frame) (tag : Nat), s.Takes f rest Kind.portClear tag →
    (parseByte f.payload = some 0 →
      let st := if (s.bp.link.state = .off ∨ s.bp.link.state = .recovering) ∧ s.settings.bRecovery = .manual then
          PortState.recovering else .joining
      ∃ t, exec .portClear s = .next t
        ∧ t = { s with
            bays := t.bays
            bp := { s.bp with link := ⟨st, 0, 0, none, 0, false⟩, rxq := [], outage := true, slots := t.bp.slots }
            sp := (s.answer f tag .ok .none).sp.queueNotice s.clock (.portState .b st 0 0 none false .state) }
        ∧ (∀ i, t.bSlot i = match s.bSlot i with | .empty o => .empty o | _ => .empty .aborted)
        ∧ (∀ b, (t.bay b).sansMarks = (s.bay b).sansMarks)
        ∧ (∀ b fam, b < 128 → (t.bay b).owes fam = ((s.bay b).owes fam || s.slotHolds fam b)))
    ∧ (parseByte f.payload = some 1 →
      let port : SPort := { s.sp with
        link := ⟨.joining, 0, 0, none, 0, false⟩
        rxq := []
        slots := s.sp.slots.map fun x => match x with | .empty o => .empty o | _ => .empty .aborted
        replies := (s.sp.replies.map fun r => { r with
          sent := if s.sp.inSlot (.reply r.id) = true then 0 else r.sent }) ++ [f.reply s.sp.nextId tag .ok .none]
        notices := s.sp.notices.map fun n => { n with
          sent := if s.sp.inSlot (.notice n.id) = true then 0 else n.sent }
        nextId := s.sp.nextId + 1 }
      exec .portClear s = .next { s with
        sp := port.queueNotice s.clock (.portState .s .joining 0 0 none false .state) })
    ∧ (∀ n, parseByte f.payload = some n → 2 ≤ n → exec .portClear s = .next (s.answer f tag .badField .none)))
  ∧ (∀ (s : State) (f : Frame) (rest : List Frame) (tag : Nat), s.Takes f rest Kind.partReset tag →
    f.payload.length = 2 →
    exec .partReset s = .next (State.answer { s with sp := { s.sp with resetPending := true } } f tag .ok .none))
  ∧ ∀ (s : State) (i : Nat) (g : SFill) (r : Reply), s.sSending = some (i, g) → g.item = .reply r.id →
    r ∈ s.sp.replies → r.kind = 0x5D → r.result = .ok → s.sp.resetPending = true →
    exec (.frameSent .s) s = .next { State.reset with pending := s.pending }

/-! ### The frames of the bay posts -/

/-- POST_STATUS (R148 to R150, R153, R176, R186, R37). The report replaces the last one with the count it was taken at, and
silence goes to 0. First it is counted for decimation: with a relay divisor every so-manieth one is passed to the site as
TAGGED_STATUS. On a bay that is neither OUT nor SUSPECT, with no proof asked, the strikes are 0 when the bay is not energised
or the metered power is within the ceiling times 10 plus the tolerance, stay while a POWER frame is owed or in a slot, and
rise at the first excess; the sensor-disagree ticks grow by the gap since the last status, up to 60, while the report is
plugged and not occupied, and are 0 else. On an OUT bay nothing is checked. On a SUSPECT bay a proof is answered by BAY_STATE
with reason PROOF and clears. A reconcile mark is cleared; nothing more comes of it on a CLEARING bay, or when the report
shows no event that the bay missed. A timer still frozen when the port sends again runs on for its remaining ticks. On a
CLEARING, FREE, OCCUPIED or PARKED bay a proof asked (reason PROOF), or disagree ticks that reach the tolerance (SENSOR),
sends the bay to SUSPECT (R154). The second excess running ends the session: the bay goes SUSPECT with ceiling 0, POWER owed
as DEENERGISE SUSPECT and LAMP owed, and its record is PARKED, interrupted, with ended_at; the floors fit the budgets and no
bay waits in a start queue there. What an OUT bay's counters do is deduced (notes/assumptions/13, 40), that a session ended
by its own status takes the energy reported before it is read from R148 and R154 (notes/assumptions/50), and that the thaw
asks for a port that sends is deduced (notes/assumptions/22). -/
def Obligations.StatusIsCheckedAndStored : Prop :=
  ∀ (s : State) (f : Frame) (rest : List Frame) (b : Nat) (st : Status), s.Hears f rest b →
    readPostFrame f = .status st → s.work = Work.none →
    (∀ n p, (s.bay b).timer = .frozen n p → 1 ≤ n ∧ n < 524288) →
    let x := s.bay b
    let live := x.state = .starting ∨ x.state = .charging
    let inRange := live ∨ x.state = .occupied ∨ x.state = .waitingPower ∨ x.state = .parked
    let missed := (st.occupied = false ∧ (inRange ∨ (x.state = .suspect ∧ x.holder.isSome = true)))
      ∨ (st.occupied = true ∧ (x.state = .free ∨ x.state = .held))
      ∨ (st.plugged = true ∧ (x.state = .free ∨ x.state = .held
          ∨ (x.state = .occupied ∧ x.occupant = some .unknown)))
      ∨ (st.plugged = false ∧ (x.state = .waitingPower ∨ live)) ∨ (st.charger = .done ∧ live)
    let settled := x.power = none ∧ s.slotHolds .power b = false
    let excess := x.ceiling * 10 + (s.bayClass b).overdrawTol < st.metered
    let passed := s.settings.relayDivisor ≠ 0 ∧ s.settings.relayDivisor ≤ x.relayCount + 1
    let tagged := if passed then s.sp.queueNotice s.clock (.taggedStatus b x.state x.holder f.payload) else s.sp
    let gap := match x.statusTick with | some t => (diff s.clock t).toNat | none => 0
    let disagree := if st.plugged = true ∧ st.occupied = false then min 60 (x.disagree + gap) else 0
    let senses := st.plugged = true ∧ st.occupied = false ∧ s.settings.sensorTolerance ≤ disagree
    let strikes := if live then (if settled then (if excess then 1 else 0) else x.strikes) else 0
    let thawed := match x.timer with
      | .frozen n p => if s.bp.link.state = .active ∨ s.bp.link.state = .caution then
          .running (plusTicks s.clock n) p else .frozen n p
      | u => u
    let stored (y : Bay) : Bay := { y with
      silence := 0, silenceDue := false, statusTick := some s.clock, status := some st, reconcile := false,
      relayCount := if s.settings.relayDivisor = 0 then y.relayCount else if passed then 0 else y.relayCount + 1 }
    let after (y : Bay) (sp : SPort) : State :=
      ({ s with bp := { s.bp with rxq := rest }, sp := sp } : State).setBay b (stored y)
    (x.state ≠ .out → x.state ≠ .suspect → x.proof = false → (x.reconcile = true → x.state = .clearing ∨ ¬ missed) →
      ¬ (live ∧ settled ∧ excess ∧ 0 < x.strikes) → ¬ senses →
      exec .postStatus s = .next (after { x with disagree := disagree, strikes := strikes, timer := thawed } tagged))
    ∧ (x.state = .out → exec .postStatus s = .next (after { x with timer := thawed } tagged))
    ∧ (x.state = .suspect → (x.reconcile = true → ¬ missed) →
      exec .postStatus s = .next (after { x with proof := false, timer := thawed }
        (if x.proof = true then tagged.queueNotice s.clock (.bayState b .suspect .proof x.holder) else tagged)))
    ∧ (∀ reason, x.state = .clearing ∨ x.state = .free ∨ x.state = .occupied ∨ x.state = .parked →
      (x.proof = true ∧ reason = .proof) ∨ (x.proof = false ∧ senses ∧ reason = .sensor) →
      (x.reconcile = true → ¬ (st.occupied = false ∧ x.holder.isSome = true)) →
      ∃ t, exec .postStatus s = .next t ∧ t.control = { s.control with bQueue := rest } ∧ t.level = s.level
        ∧ t.bay b = stored { x with
            state := .suspect
            occupant := if x.holder.isSome = true then x.occupant else none
            timer := .none
            proof := false
            strikes := if reason = .proof then x.strikes else 0
            disagree := if reason = .proof then x.disagree else disagree
            lamp := true }
        ∧ (∀ c, c ≠ b → t.bay c = s.bay c)
        ∧ t.sp = tagged.queueNotice s.clock (.bayState b .suspect reason x.holder))
    ∧ ∀ h r, live → settled → excess → x.strikes = 1 → x.proof = false → x.holder = some h → s.find h = some r →
      (x.reconcile = true → st.occupied = true) → s.FloorsFit → s.QueuesEmpty → s.PortsInv →
      let energy := match x.status with | some old => some old.energy | none => r.energy
      ∃ t, exec .postStatus s = .next t ∧ t.control = { s.control with bQueue := rest }
        ∧ t.level = { s.level with
            energised := s.energised.filter fun e => e.bay != b
            book := s.bookWith h fun q => { q with
              state := .parked, energy := energy, interrupted := true
              captures := { q.captures with endedAt := some s.clock } } }
        ∧ t.bay b = stored { x with
            state := .suspect, timer := .none, ceiling := 0, power := some (.deenergise .suspect), strikes := 2,
            lamp := true }
        ∧ (∀ c, c ≠ b → (t.bay c).sansMarks = ({ s.bay c with ceiling := (t.bay c).ceiling } : Bay).sansMarks)
        ∧ t.sp.notices = ((tagged.queueNotice s.clock (.sessionEnd h b energy r.sessions)).queueNotice s.clock
            (.bayState b .suspect .overdraw (some h))).notices

/-- OCCUPIED (R92): a HELD bay's holder is SEATED with seated_at, a FREE or CLEARING bay has no holder, and either goes
OCCUPIED, occupant UNKNOWN, with PLUG_WAIT armed and LAMP owed; in every other state nothing changes. The frame is
heard, and passed to the site as TAGGED_EVENT first (R151, R185). The first POST_STATUS after an outage that reports a FREE
or HELD bay occupied and unplugged does the same (R176), with no TAGGED_EVENT, and its report is stored; no status is
decimated and no proof asked there. That an OUT bay hears its frame is deduced (notes/assumptions/13). -/
def Obligations.OccupiedSeatsTheHolder : Prop :=
  ∀ (c : Instr) (s : State) (f : Frame) (rest : List Frame) (b : Nat) (tagged : SPort) (y' : Bay), s.Hears f rest b →
    (c = .occupied ∧ readPostFrame f = .event .occupied
        ∧ tagged = s.sp.queueNotice s.clock (.taggedEvent b (s.bay b).state (s.bay b).holder f.payload)
        ∧ y' = s.bay b)
      ∨ (c = .postStatus ∧ (s.bay b).reconcile = true ∧ (s.bay b).proof = false ∧ s.settings.relayDivisor = 0
        ∧ ((s.bay b).state = .free ∨ (s.bay b).state = .held) ∧ tagged = s.sp
        ∧ ∃ st, readPostFrame f = .status st ∧ st.occupied = true ∧ st.plugged = false
          ∧ y' = { s.bay b with
              reconcile := false, strikes := 0, disagree := 0, status := some st, statusTick := some s.clock }) →
    s.work = Work.none → (s.bayClass b).inRange = true →
    let y : Bay := { y' with
      state := .occupied, occupant := some .unknown, silence := 0, silenceDue := false, lamp := true,
      timer := s.armed? .plugWait (plusTicks s.clock (s.bayClass b).plugWait) }
    (∀ h r, (s.bay b).state = .held → (s.bay b).holder = some h → s.find h = some r →
      ∃ t, exec c s = .next t ∧ t.control = { s.control with bQueue := rest }
        ∧ t.level = { s.level with book := s.bookWith h fun q => { q with
            state := .seated, captures := { q.captures with seatedAt := some s.clock } } }
        ∧ t.bay b = y ∧ (∀ c, c ≠ b → t.bay c = s.bay c)
        ∧ t.sp.notices = (tagged.queueNotice s.clock (.seated h r.token b)).notices)
    ∧ ((s.bay b).state = .free ∨ (s.bay b).state = .clearing →
      ∃ t, exec c s = .next t ∧ t.control = { s.control with bQueue := rest } ∧ t.level = s.level
        ∧ t.bay b = { y with holder := none } ∧ (∀ c, c ≠ b → t.bay c = s.bay c)
        ∧ t.sp.notices = tagged.notices)
    ∧ ((s.bay b).state ≠ .held → (s.bay b).state ≠ .free → (s.bay b).state ≠ .clearing →
      exec c s = .next (({ s with bp := { s.bp with rxq := rest }, sp := tagged } : State).setBay b
        { s.bay b with silence := 0, silenceDue := false }))

/-- VACATED (R106): an OCCUPIED or PARKED bay's record is closed COMPLETED with vacated_at and its dwell, and the bay goes
CLEARING with no occupant, holder or status, QUERY and LAMP owed and SETTLE armed; a SUSPECT bay's record is closed too, and
the bay stays SUSPECT with nobody on it. On a STARTING or CHARGING bay the session is ended before, with DEENERGISE VACATED
and SESSION_END (floors that fit and no start waiting); a WAITING_POWER bay leaves its queue before, a paused session ended
with SESSION_END and the energy of the last status (deduced, notes/assumptions/45), and the rescan follows. On an OUT,
CLEARING, FREE or HELD bay nothing changes but the tagging. The first POST_STATUS after an outage that reports the bay vacant and unplugged
does the same (R176), with no TAGGED_EVENT; a SUSPECT bay keeps its report; no status is decimated and no proof asked there.
That an OUT bay hears its frame is deduced (notes/assumptions/13). -/
def Obligations.VacatedCompletesTheRecord : Prop :=
  ∀ (c : Instr) (s : State) (f : Frame) (rest : List Frame) (b : Nat) (tagged : SPort) (y' : Bay), s.Hears f rest b →
    (c = .vacated ∧ readPostFrame f = .event .vacated
        ∧ tagged = s.sp.queueNotice s.clock (.taggedEvent b (s.bay b).state (s.bay b).holder f.payload)
        ∧ y' = s.bay b)
      ∨ (c = .postStatus ∧ (s.bay b).reconcile = true ∧ (s.bay b).proof = false ∧ s.settings.relayDivisor = 0
        ∧ ((s.bay b).state = .occupied ∨ (s.bay b).state = .parked
          ∨ ((s.bay b).state = .suspect ∧ (s.bay b).holder ≠ none)) ∧ tagged = s.sp
        ∧ ∃ st, readPostFrame f = .status st ∧ st.occupied = false ∧ st.plugged = false
          ∧ y' = { s.bay b with
              reconcile := false, status := some st, statusTick := some s.clock,
              strikes := if (s.bay b).state = .suspect then (s.bay b).strikes else 0,
              disagree := if (s.bay b).state = .suspect then (s.bay b).disagree else 0 }) →
    s.work = Work.none → (s.bayClass b).inRange = true →
    let y : Bay := { y' with
      occupant := none, holder := none, timer := .none, silence := 0, silenceDue := false }
    let swept : Bay := { y with
      state := .clearing, status := none, statusTick := none, query := true, lamp := true,
      timer := s.armed? .settle (plusTicks s.clock (s.bayClass b).settle) }
    (∀ h r, (s.bay b).holder = some h → s.find h = some r →
      let control : Control := { s.control with bQueue := rest }
      let closed (r : Reservation) : NoticeBody := .closed {
        handle := h, token := r.token, cls := r.cls, tier := r.tier, reason := .completed,
        bay := if r.state.holdsBay = true then r.bay else none,
        captures := { r.captures with vacatedAt := some s.clock }, energy := r.energy, sessions := r.sessions,
        interrupted := r.interrupted,
        dwell := match r.captures.seatedAt with | some seat => (diff s.clock seat).toNat | none => 0 }
      let energy := match (s.bay b).status with | some st => some st.energy | none => r.energy
      let ended : Reservation := { r with
        energy := energy, captures := { r.captures with endedAt := some s.clock } }
      ((s.bay b).state = .occupied ∨ (s.bay b).state = .parked ∨ (s.bay b).state = .suspect →
        ∃ t, exec c s = .next t ∧ t.control = control ∧ t.level = s.levelWithout h
          ∧ t.bay b = (if (s.bay b).state = .suspect then y else swept) ∧ s.OthersKept t b
          ∧ t.sp.notices = (tagged.queueNotice s.clock (closed r)).notices)
      ∧ (c = .vacated → (s.bay b).state = .starting ∨ (s.bay b).state = .charging → s.FloorsFit → s.QueuesEmpty →
        s.PortsInv →
        ∃ t, exec c s = .next t ∧ t.control = control
          ∧ t.level = { s.levelWithout h with energised := s.energised.filter fun e => e.bay != b }
          ∧ t.bay b = { swept with ceiling := 0, power := some (.deenergise .vacated) }
          ∧ (∀ d, d ≠ b → (t.bay d).sansMarks = ({ s.bay d with ceiling := (t.bay d).ceiling } : Bay).sansMarks)
          ∧ t.sp.notices = ((tagged.queueNotice s.clock (.sessionEnd h b energy r.sessions)).queueNotice s.clock
              (closed { ended with state := .parked })).notices)
      ∧ (c = .vacated → (s.bay b).state = .waitingPower →
        (∀ p ∈ s.queue (s.bay b).branch, ∀ q ∈ s.queue (s.bay b).branch, p.bay = b → q.bay = b → p = q) →
        let paused := ∃ q ∈ s.queue (s.bay b).branch, q.bay = b ∧ q.paused.isSome = true
        ∃ u : State, exec c s = .next (u.finished Work.rescans) ∧ u.control = control
          ∧ u.level = { s.levelWithout h with
              queues := s.queues.setIfInBounds (s.bay b).branch
                ((s.queue (s.bay b).branch).filter fun q => q.bay != b) }
          ∧ u.bay b = swept ∧ s.OthersKept u b
          ∧ (¬ paused → u.sp.notices = (tagged.queueNotice s.clock (closed r)).notices)
          ∧ (paused → u.sp.notices = ((tagged.queueNotice s.clock (.sessionEnd h b energy r.sessions)).queueNotice
              s.clock (closed { ended with interrupted := true })).notices)))
    ∧ ((s.bay b).state = .occupied ∨ (s.bay b).state = .parked → (s.bay b).holder = none →
      ∃ t, exec c s = .next t ∧ t.control = { s.control with bQueue := rest } ∧ t.level = s.level
        ∧ t.bay b = swept ∧ (∀ c, c ≠ b → t.bay c = s.bay c) ∧ t.sp.notices = tagged.notices)
    ∧ ((s.bay b).state = .out ∨ (s.bay b).state = .clearing ∨ (s.bay b).state = .free ∨ (s.bay b).state = .held →
      exec c s = .next (({ s with bp := { s.bp with rxq := rest }, sp := tagged } : State).setBay b
        { s.bay b with silence := 0, silenceDue := false }))

/-- PLUGGED (R93 to R98, R102, R119 to R122). On a PARKED bay with a holder another token is locked out FOREIGN. The holder's
token on a PARKED, OCCUPIED or HELD bay joins the start queue of the branch when its end lies ahead, the bay going
WAITING_POWER with WINDOW_END at the end and the rescan following; a HELD bay's record is SEATED first. With 32 in the queue
the bay goes PARKED instead, with BAY_STATE QUEUE_FULL (R134). When its end has passed it is locked out WINDOW_PASSED, and an
OCCUPIED bay PARKED with OVERSTAY armed. On a FREE, CLEARING or OCCUPIED bay with no holder a token may adopt its record (the
only one of the token, of the bay's class, whose need the free run covers): the record leaves its held bay, which is freed,
or the waiting-bay list, and is SEATED here. A token that waits in the walk-up queue is served here when class, free run and
book allow. Any other is a drive-in, locked out by the first check of R120 that fails, or given a WALKUP record. On a HELD or
OCCUPIED bay with another holder a token that neither adopts nor waits is foreign: locked out, with FOREIGN_OCCUPANT, and the
holder is reseated. Each of those served joins the start queue, as above. In WAITING_POWER, STARTING, CHARGING, SUSPECT and
OUT nothing changes but the tagging. Ends and graces lie ahead where not said. That an OUT bay hears its frame is deduced
(notes/assumptions/13), and so is the enqueued_at of cause PLUG (notes/assumptions/27); an end exactly half the clock away
reads as not passed (notes/assumptions/44). Where the keys of R42 order the book in a cycle, the record's place is the
model's choice (notes/assumptions/59). -/
def Obligations.PluggedIsJudgedByTheState : Prop :=
  ∀ (s : State) (f : Frame) (rest : List Frame) (b token : Nat), s.Hears f rest b →
    readPostFrame f = .event (.plugged token) → s.work = Work.none → (s.bay b).branch < 8 →
    (s.bayClass b).inRange = true →
    let x := s.bay b
    let tagged := s.sp.queueNotice s.clock (.taggedEvent b x.state x.holder f.payload)
    let y : Bay := { x with silence := 0, silenceDue := false }
    let control : Control := { s.control with bQueue := rest }
    let room := (s.queue x.branch).length < 32
    let queues := s.queues.setIfInBounds x.branch (s.queue x.branch ++ [⟨b, none⟩])
    let wait : Timer := if x.state = .occupied then x.timer
      else s.armed? .plugWait (plusTicks s.clock (s.bayClass b).plugWait)
    let joined (h : Nat) (fin : Tick) : Bay := { y with
      state := .waitingPower
      occupant := if x.state = .parked then x.occupant else some .holder
      holder := some h
      timer := .running fin .windowEnd }
    let seats (q : Reservation) : Reservation := { q with
      state := .seated, captures := { q.captures with seatedAt := some s.clock } }
    let late (r : Reservation) : Timer := .running (plusTicks r.endTick (s.bayClass b).overstay) .overstay
    (∀ h r, x.state = .parked → x.holder = some h → s.find h = some r →
      (r.token ≠ token → ∃ t, exec .plugged s = .next t ∧ t.control = control
        ∧ t.level = s.level ∧ t.bay b = { y with access := some .foreign } ∧ (∀ c, c ≠ b → t.bay c = s.bay c)
        ∧ t.sp = tagged)
      ∧ (r.token = token → 0 ≤ diff s.clock r.endTick →
        ∃ t, exec .plugged s = .next t ∧ t.control = control ∧ t.level = s.level
          ∧ t.bay b = { y with access := some .windowPassed } ∧ (∀ c, c ≠ b → t.bay c = s.bay c)
          ∧ t.sp = tagged))
    ∧ (∀ h r, x.state = .parked ∨ x.state = .occupied ∨ x.state = .held → x.holder = some h →
      s.find h = some r → r.token = token → 0 < diff r.endTick s.clock →
      let arrived := if x.state = .held then tagged.queueNotice s.clock (.seated h token b) else tagged
      let book (st : ResState) := s.bookWith h fun q => { (if x.state = .held then seats q else q) with state := st }
      (room → ∃ u : State, exec .plugged s = .next (u.finished Work.rescans) ∧ u.control = control
        ∧ u.level = { s.level with book := book .seated, queues := queues }
        ∧ (u.bay b).sansLamp = (joined h r.endTick).sansLamp ∧ (∀ c, c ≠ b → u.bay c = s.bay c) ∧ u.sp = arrived)
      ∧ (¬ room → ∃ t, exec .plugged s = .next t ∧ t.control = control
        ∧ t.level = { s.level with book := book .parked }
        ∧ (t.bay b).sansLamp = ({ joined h r.endTick with state := .parked } : Bay).sansLamp
        ∧ (∀ c, c ≠ b → t.bay c = s.bay c)
        ∧ t.sp = arrived.queueNotice s.clock (.bayState b .parked .queueFull (some h))))
    ∧ (∀ h r, x.state = .occupied → x.holder = some h → s.find h = some r → r.token = token →
      0 ≤ diff s.clock r.endTick → 0 < diff (plusTicks r.endTick (s.bayClass b).overstay) s.clock →
      ∃ t, exec .plugged s = .next t ∧ t.control = control
        ∧ t.level = { s.level with book := s.bookWith h fun q => { q with state := .parked } }
        ∧ (t.bay b).sansLamp = ({ y with
            state := .parked, occupant := some .holder, access := some .windowPassed, timer := late r } : Bay).sansLamp
        ∧ (∀ c, c ≠ b → t.bay c = s.bay c) ∧ t.sp = tagged)
    ∧ (x.state = .free ∨ x.state = .clearing ∨ (x.state = .occupied ∧ x.holder = none) →
      (∀ (h : Nat) (r : Reservation), s.LevelInv → s.find h = some r → r.token = token →
        (∀ q ∈ s.book, q.token = token → q = r) → r.cls = x.cls →
        (∀ n, s.freeRun? b (some h) = some n → diff r.intervalEnd s.clock ≤ (n : Int)) →
        0 < diff r.endTick s.clock → room →
        (r.state = .waitingBay
            ∨ (r.state = .booked ∧ 0 ≤ diff s.clock (minusTicks r.holdBegin (s.classOf r.cls).early))
            ∨ (r.state = .held ∧ ∃ d < 128, d ≠ b ∧ r.bay = some d)) →
        let freed := if r.state = .held then r.bay.toList else []
        ∃ u : State, exec .plugged s = .next (u.finished ⟨[], true, freed⟩) ∧ u.control = control
          ∧ u.level = { s.level with
              book := s.bookWith h fun q => { seats q with bay := some b }
              waiting := if r.state = .waitingBay then s.waiting.filter fun w => w != h else s.waiting
              queues := queues }
          ∧ (u.bay b).sansLamp = (joined h r.endTick).sansLamp
          ∧ (∀ c, c ≠ b → (u.bay c).sansLamp =
              (if c ∈ freed then s.bayFreed c else s.bay c).sansLamp)
          ∧ u.sp.notices = (tagged.queueNotice s.clock (.seated h token b)).notices)
      ∧ (∀ (before after : List WalkEntry) (w : WalkEntry) (slot : Nat), (∀ r ∈ s.book, r.token ≠ token) →
        s.walkups = before ++ w :: after → w.token = token → (∀ v ∈ before, v.token ≠ token) →
        w.mask.testBit x.cls = true → s.walkupRun b = true → s.freeSlot = some slot → 0 < w.stay → room →
        let r := s.walkupRecord slot token b w.stay .seated
          { Captures.none with arrivedAt := some s.clock, seatedAt := some s.clock }
        ∃ u : State, exec .plugged s = .next (u.finished Work.rescans) ∧ u.control = control
          ∧ u.level = { s.level with
              book := insertBy bookBefore r s.book, nextOrder := s.nextOrder + 1, walkups := before ++ after
              queues := queues }
          ∧ (u.bay b).sansLamp = (joined r.handle r.endTick).sansLamp ∧ s.OthersKept u b
          ∧ u.sp.notices = ((tagged.queueNotice s.clock (.walkupAssigned r.handle token x.cls b s.clock r.length .plug
              (some w.enqueuedAt))).queueNotice s.clock (.seated r.handle token b)).notices)
      ∧ ((∀ r ∈ s.book, r.token = token → r.cls ≠ x.cls ∨ r.state = .seated ∨ r.state = .charging
          ∨ r.state = .parked) →
        (∀ w ∈ s.walkups, w.token ≠ token) →
        let v := s.evaluateDriveIn token b
        let live := ∃ r ∈ s.book, r.token = token
        let cause : Option ForeignCause :=
          if s.clockSet = false then some .notReady
          else match v.refusal with
            | some reason => some (.policy reason v.index)
            | none =>
              if token = 0 then some .noToken else if live then some .liveRecord
              else if s.freeSlot = none then some .bookFull else if s.walkupRun b = false then some .shortRun else none
        (∀ why, cause = some why →
          ∃ t, exec .plugged s = .next t ∧ t.control = control ∧ t.level = s.level
            ∧ (t.bay b).sansLamp = ({ y with
                state := .occupied, occupant := some .foreign, holder := none, timer := wait,
                access := some (if why = .notReady then .notReady else .foreign) } : Bay).sansLamp
            ∧ (∀ c, c ≠ b → t.bay c = s.bay c)
            ∧ t.sp = tagged.queueNotice s.clock (.foreignOccupant b token none why))
        ∧ ∀ slot, cause = none → s.freeSlot = some slot → 0 < v.length → room →
          let r := s.walkupRecord slot token b v.length .seated
            { Captures.none with arrivedAt := some s.clock, seatedAt := some s.clock }
          ∃ u : State, exec .plugged s = .next (u.finished Work.rescans) ∧ u.control = control
            ∧ u.level = { s.level with
                book := insertBy bookBefore r s.book, nextOrder := s.nextOrder + 1, queues := queues }
            ∧ (u.bay b).sansLamp = (joined r.handle r.endTick).sansLamp ∧ s.OthersKept u b
            ∧ u.sp.notices = ((tagged.queueNotice s.clock (.walkupAssigned r.handle token x.cls b s.clock r.length
                .driveIn none)).queueNotice s.clock (.seated r.handle token b)).notices))
    ∧ (∀ h r, s.LevelInv → x.state = .held ∨ x.state = .occupied → x.holder = some h → s.find h = some r →
      r.token ≠ token →
      (∀ q ∈ s.book, q.token = token → q.cls ≠ x.cls ∨ q.state = .seated ∨ q.state = .charging ∨ q.state = .parked) →
      (∀ w ∈ s.walkups, w.token ≠ token) →
      0 < diff (plusTicks r.start (s.classOf r.cls).grace) s.clock →
      let seated : State := if x.state = .held then { s with book := s.bookWith h seats } else s
      let arrived := if x.state = .held then tagged.queueNotice s.clock (.seated h r.token b) else tagged
      ∃ t, exec .plugged s = .next t ∧ t.control = control ∧ t.level = seated.levelReseated r b
        ∧ (t.bay b).sansLamp = ({ y with
            state := .occupied, occupant := some .foreign, holder := none, access := some .foreign,
            timer := match wait with | .running _ .windowEnd => .none | u => u } : Bay).sansLamp
        ∧ s.OthersReseated t r b
        ∧ t.sp.notices = ((arrived.queueNotice s.clock (.foreignOccupant b token (some h) .heldBay)).queueNotice
            s.clock (s.reseatNotice r b)).notices)
    ∧ (x.state = .waitingPower ∨ x.state = .starting ∨ x.state = .charging ∨ x.state = .suspect ∨ x.state = .out →
      exec .plugged s = .next (({ s with bp := { s.bp with rxq := rest }, sp := tagged } : State).setBay b y))

/-- UNPLUGGED and CHARGE_DONE (R100, R101). On an energised bay whose record's end lies ahead the session ends: the bay
leaves the energised set with ceiling 0 and DEENERGISE SESSION_END owed, goes PARKED with WINDOW_END armed, and its record
PARKED with ended_at and the energy of the last status; SESSION_END is queued. The floors fit the budgets and no bay waits in
a start queue there. The first POST_STATUS after an outage that reports an energised bay occupied, and unplugged or DONE,
ends the session in the same way with the energy it reports (R176); no status is decimated, no proof asked and no excess met
there. UNPLUGGED on a WAITING_POWER bay takes it out of its queue and PARKS it with its record, a paused session ended,
interrupted, with SESSION_END and the energy of the last status (deduced, notes/assumptions/45); the rescan follows (no
start while the B-port does not send). Everywhere else nothing changes but the tagging. That an OUT bay hears its frame is deduced
(notes/assumptions/13). -/
def Obligations.UnplugAndChargeDoneEndTheSession : Prop :=
  (∀ (c : Instr) (e : PostEvent) (s : State) (f : Frame) (rest : List Frame) (b : Nat),
    (c = .unplugged ∧ e = .unplugged) ∨ (c = .chargeDone ∧ e = .chargeDone) → s.Hears f rest b →
    readPostFrame f = .event e → s.work = Work.none →
    let tagged := s.sp.queueNotice s.clock (.taggedEvent b (s.bay b).state (s.bay b).holder f.payload)
    let y : Bay := { s.bay b with silence := 0, silenceDue := false }
    (∀ h r, (s.bay b).state = .starting ∨ (s.bay b).state = .charging → (s.bay b).holder = some h →
      s.find h = some r → 0 < diff r.endTick s.clock → s.FloorsFit → s.QueuesEmpty → s.PortsInv →
      let energy := match (s.bay b).status with | some st => some st.energy | none => r.energy
      ∃ t, exec c s = .next t ∧ t.control = { s.control with bQueue := rest }
        ∧ t.level = { s.level with
            energised := s.energised.filter fun x => x.bay != b
            book := s.bookWith h fun q => { q with
              state := .parked, energy := energy, captures := { q.captures with endedAt := some s.clock } } }
        ∧ t.bay b = { y with
            state := .parked, ceiling := 0, power := some (.deenergise .sessionEnd),
            timer := .running r.endTick .windowEnd }
        ∧ (∀ d, d ≠ b → (t.bay d).sansMarks = ({ s.bay d with ceiling := (t.bay d).ceiling } : Bay).sansMarks)
        ∧ t.sp.notices = (tagged.queueNotice s.clock (.sessionEnd h b energy r.sessions)).notices)
    ∧ (∀ h r, c = .unplugged → (s.bay b).state = .waitingPower → (s.bay b).holder = some h → s.find h = some r →
      (∀ q ∈ s.queue (s.bay b).branch, q.bay = b → q.paused = none) → s.bp.link.state ≠ .active →
      s.bp.link.state ≠ .caution →
      ∃ t, exec c s = .next t ∧ t.control = { s.control with bQueue := rest }
        ∧ t.level = { s.level with
            book := s.bookWith h fun q => { q with state := .parked }
            queues := s.queues.setIfInBounds (s.bay b).branch
              ((s.queue (s.bay b).branch).filter fun q => q.bay != b) }
        ∧ t.bay b = { y with state := .parked } ∧ (∀ d, d ≠ b → t.bay d = s.bay d) ∧ t.sp = tagged)
    ∧ (∀ h r, c = .unplugged → (s.bay b).state = .waitingPower → (s.bay b).holder = some h → s.find h = some r →
      (∀ p ∈ s.queue (s.bay b).branch, ∀ q ∈ s.queue (s.bay b).branch, p.bay = b → q.bay = b → p = q) →
      let paused := ∃ q ∈ s.queue (s.bay b).branch, q.bay = b ∧ q.paused.isSome = true
      let energy := match (s.bay b).status with | some st => some st.energy | none => r.energy
      ∃ u : State, exec c s = .next (u.finished Work.rescans) ∧ u.control = { s.control with bQueue := rest }
        ∧ u.level.queues = s.queues.setIfInBounds (s.bay b).branch
            ((s.queue (s.bay b).branch).filter fun q => q.bay != b)
        ∧ u.bay b = { y with state := .parked } ∧ (∀ d, d ≠ b → u.bay d = s.bay d)
        ∧ (¬ paused → u.sp = tagged
            ∧ u.level = { s.level with
                queues := u.queues, book := s.bookWith h fun q => { q with state := .parked } })
        ∧ (paused → u.sp.notices = (tagged.queueNotice s.clock (.sessionEnd h b energy r.sessions)).notices
            ∧ u.level = { s.level with
                queues := u.queues
                book := s.bookWith h fun q => { q with
                  state := .parked, energy := energy, interrupted := true,
                  captures := { q.captures with endedAt := some s.clock } } }))
    ∧ ((s.bay b).state ≠ .starting → (s.bay b).state ≠ .charging →
      ((s.bay b).state ≠ .waitingPower ∨ c = .chargeDone) →
      exec c s = .next (({ s with bp := { s.bp with rxq := rest }, sp := tagged } : State).setBay b y)))
  ∧ ∀ (s : State) (f : Frame) (rest : List Frame) (b h : Nat) (r : Reservation) (st : Status), s.Hears f rest b →
    readPostFrame f = .status st → s.work = Work.none → s.settings.relayDivisor = 0 →
    (s.bay b).reconcile = true → (s.bay b).proof = false →
    (s.bay b).state = .starting ∨ (s.bay b).state = .charging → st.occupied = true →
    st.plugged = false ∨ st.charger = .done → st.metered ≤ (s.bay b).ceiling * 10 + (s.bayClass b).overdrawTol →
    (s.bay b).holder = some h → s.find h = some r → 0 < diff r.endTick s.clock → s.FloorsFit → s.QueuesEmpty →
    s.PortsInv →
    ∃ t, exec .postStatus s = .next t ∧ t.control = { s.control with bQueue := rest }
      ∧ t.level = { s.level with
          energised := s.energised.filter fun x => x.bay != b
          book := s.bookWith h fun q => { q with
            state := .parked, energy := some st.energy, captures := { q.captures with endedAt := some s.clock } } }
      ∧ t.bay b = { s.bay b with
          state := .parked, ceiling := 0, power := some (.deenergise .sessionEnd), disagree := 0, reconcile := false
          strikes := if (s.bay b).power = none ∧ s.slotHolds .power b = false then 0 else (s.bay b).strikes
          silence := 0, silenceDue := false, status := some st, statusTick := some s.clock
          timer := .running r.endTick .windowEnd }
      ∧ (∀ d, d ≠ b → (t.bay d).sansMarks = ({ s.bay d with ceiling := (t.bay d).ceiling } : Bay).sansMarks)
      ∧ t.sp.notices = s.noticesWith (.sessionEnd h b (some st.energy) r.sessions)

/-! ### The links -/

/-- B_FRAME_RECEIVED and S_FRAME_RECEIVED (R161, R162, R173, R179) on a port whose transmit count is below 120: a frame read
without error takes the receive count down by one, or from 120 and more to 100, whether or not it is queued; a port in
CAUTION goes back to ACTIVE with PORT_STATE. A frame addressed to the port joins a receive queue of fewer than 16; a full
one drops it or its oldest by the rx mode, with the overrun flag set, and PORT_STATE with cause OVERRUN when the flag was
clear. A port in CAUTION with a transmit count of 120 or more stays there. On a port that neither is ACTIVE nor in CAUTION
nothing is received; that is deduced (notes/assumptions/35). -/
def Obligations.FramesAreCountedAndQueued : Prop :=
  (∀ (s : State) (w : WireFrame) (f : Frame), readWire w = .ok f →
    s.bp.link.state = .active ∧ s.bp.link.tx < 120 ∧ s.bp.link.rx < 120
      ∨ s.bp.link.state = .caution ∧ s.bp.link.tx < 224 →
    let rx := if 120 ≤ s.bp.link.rx then 100 else s.bp.link.rx - 1
    let back := s.bp.link.state = .caution ∧ s.bp.link.tx < 120
    let link : Link := if back then { s.bp.link with state := .active, gaps := 0, rx := rx }
      else { s.bp.link with rx := rx }
    let sp := if back then s.sp.queueNotice s.clock
        (.portState .b .active s.bp.link.tx rx s.bp.link.lastError s.bp.link.overrun .state) else s.sp
    let wanted := (f.dest = 0 ∨ f.dest = 255) ∧ ∃ b, s.bayOfPost f.source = some b
    (¬ wanted → exec (.bFrameReceived w) s = .next { s with bp := { s.bp with link := link }, sp := sp })
    ∧ (wanted → s.bp.rxq.length < 16 → exec (.bFrameReceived w) s = .next { s with
        bp := { s.bp with link := link, rxq := s.bp.rxq ++ [f] }, sp := sp })
    ∧ (wanted → 16 ≤ s.bp.rxq.length → exec (.bFrameReceived w) s = .next { s with
        bp := { s.bp with
          link := { link with overrun := true }
          rxq := match s.settings.bRxMode with
            | .keepOldest => s.bp.rxq
            | .keepNewest => s.bp.rxq.tail ++ [f] }
        sp := if s.bp.link.overrun = true then sp else
          sp.queueNotice s.clock (.portState .b link.state link.tx rx link.lastError true .overrun) }))
  ∧ (∀ (s : State) (w : WireFrame) (f : Frame), readWire w = .ok f →
    s.sp.link.state = .active ∧ s.sp.link.tx < 120 ∧ s.sp.link.rx < 120
      ∨ s.sp.link.state = .caution ∧ s.sp.link.tx < 224 →
    let rx := if 120 ≤ s.sp.link.rx then 100 else s.sp.link.rx - 1
    let back := s.sp.link.state = .caution ∧ s.sp.link.tx < 120
    let link : Link := if back then { s.sp.link with state := .active, gaps := 0, rx := rx }
      else { s.sp.link with rx := rx }
    let port : SPort := { s.sp with link := link }
    let sp := if back then port.queueNotice s.clock
        (.portState .s .active s.sp.link.tx rx s.sp.link.lastError s.sp.link.overrun .state) else port
    let wanted := f.dest = s.settings.partAddress ∧ 1 ≤ f.source ∧ f.source ≤ 254
      ∧ f.source ≠ s.settings.partAddress
    (¬ wanted → exec (.sFrameReceived w) s = .next { s with sp := sp })
    ∧ (wanted → s.sp.rxq.length < 16 →
        exec (.sFrameReceived w) s = .next { s with sp := { sp with rxq := s.sp.rxq ++ [f] } })
    ∧ (wanted → 16 ≤ s.sp.rxq.length →
      let full : SPort := { sp with
        link := { link with overrun := true }
        rxq := match s.settings.sRxMode with
          | .keepOldest => s.sp.rxq
          | .keepNewest => s.sp.rxq.tail ++ [f] }
      exec (.sFrameReceived w) s = .next { s with
        sp := if s.sp.link.overrun = true then full else
          full.queueNotice s.clock (.portState .s link.state link.tx rx link.lastError true .overrun) }))
  ∧ ∀ (s : State) (w : WireFrame),
    (s.bp.link.state = .joining ∨ s.bp.link.state = .off ∨ s.bp.link.state = .recovering →
      exec (.bFrameReceived w) s = .next s)
    ∧ (s.sp.link.state = .joining ∨ s.sp.link.state = .off ∨ s.sp.link.state = .recovering →
      exec (.sFrameReceived w) s = .next s)

/-- RECEIVE_ERROR (R160, R161, R165, R172): on an ACTIVE port whose transmit count is below 120 the receive count goes
up by one and the kind is recorded; reaching 64 queues PORT_STATE with cause WARNING; reaching 120 takes the B-port to
CAUTION, with PORT_STATE, and aborts its PENDING slots of priority 4..7 alone, and the S-port, whose PENDING notice slot is
emptied and the notice kept in its queue to start again; that the slot is empty before PORT_STATE is queued is the model's
choice (notes/assumptions/61). A port that does not receive finds no error, which is deduced (notes/assumptions/35). -/
def Obligations.ReceiveErrorsAreCounted : Prop :=
  (∀ (s : State) (p : Port) (e : RxError), (s.link p).state = .active → (s.link p).tx < 120 → (s.link p).rx < 119 →
    let kind : ErrorKind := match e with | .check => .check | .form => .form | .length => .length
    let l := { s.link p with rx := (s.link p).rx + 1, lastError := some kind }
    exec (.receiveError p e) s = .next (if (s.link p).rx = 63 then
        notify (.portState p .active l.tx 64 (some kind) l.overrun .warning) (setLink p l s)
      else setLink p l s))
  ∧ (∀ (s : State) (e : RxError), s.bp.link.state = .active → s.bp.link.tx < 120 → s.bp.link.rx = 119 →
    ∃ t, exec (.receiveError .b e) s = .next t ∧ t.level = s.level ∧ t.settings = s.settings
      ∧ t.bp.link = { s.bp.link with state := .caution, rx := 120, lastError := some (rxErrorKind e) }
      ∧ (∀ i g, s.bSlot i = .pending g → t.bSlot i = if 4 ≤ g.frame.priority then .empty .aborted else .pending g)
      ∧ (∀ i g, s.bSlot i = .sending g → t.bSlot i = .sending g)
      ∧ (∀ b, (t.bay b).sansMarks = (s.bay b).sansMarks)
      ∧ t.sp.notices = s.noticesWith (.portState .b .caution s.bp.link.tx 120 (some (rxErrorKind e))
          s.bp.link.overrun .state))
  ∧ (∀ (s : State) (e : RxError), s.sp.link.state = .active → s.sp.link.tx < 120 → s.sp.link.rx = 119 →
    let l : Link := { s.sp.link with state := .caution, rx := 120, lastError := some (rxErrorKind e) }
    exec (.receiveError .s e) s = .next { s with
      sp := ({ s.sp with link := l } : SPort).noticesReturned.queueNotice s.clock
        (.portState .s .caution s.sp.link.tx 120 (some (rxErrorKind e)) s.sp.link.overrun .state) })
  ∧ ∀ (s : State) (p : Port) (e : RxError),
    (s.link p).state = .joining ∨ (s.link p).state = .off ∨ (s.link p).state = .recovering →
    exec (.receiveError p e) s = .next s

/-- IDLE_GAP, JOIN_COMPLETE and RECOVERY_COMPLETE (R162, R164). Gaps are counted by a JOINING port to 8 and by a
RECOVERING one to 80. With its count reached a port enters ACTIVE with PORT_STATE, a RECOVERING one with both counts 0.
The B-port's return after an outage clears the outage flag and sets QUERY and the reconcile mark of every bay in
service. No bay waits in a start queue here, so no start follows. A command out of its time changes nothing, and the
count is held (the model's choices, notes/assumptions/1, 21). -/
def Obligations.GapsBringThePortBack : Prop :=
  (∀ (s : State) (p : Port),
    ((s.link p).state = .joining →
      exec (.idleGap p) s = .next (setLink p { s.link p with gaps := min 8 ((s.link p).gaps + 1) } s))
    ∧ ((s.link p).state = .recovering →
      exec (.idleGap p) s = .next (setLink p { s.link p with gaps := min 80 ((s.link p).gaps + 1) } s))
    ∧ ((s.link p).state ≠ .joining → (s.link p).state ≠ .recovering → exec (.idleGap p) s = .next s))
  ∧ (∀ (c : Instr) (s : State), s.work = Work.none → s.QueuesEmpty →
    (c = .joinComplete .b ∧ s.bp.link.state = .joining ∧ 8 ≤ s.bp.link.gaps)
      ∨ (c = .recoveryComplete .b ∧ s.bp.link.state = .recovering ∧ 80 ≤ s.bp.link.gaps) →
    let tx := if s.bp.link.state = .joining then s.bp.link.tx else 0
    let rx := if s.bp.link.state = .joining then s.bp.link.rx else 0
    ∃ t, exec c s = .next t ∧ t.level = s.level ∧ t.settings = s.settings ∧ t.clock = s.clock
      ∧ t.bp.link = { s.bp.link with state := .active, gaps := 0, tx := tx, rx := rx } ∧ t.bp.outage = false
      ∧ (∀ b < 128, t.bay b = if s.bp.outage = true ∧ (s.bay b).state ≠ .out then
            { s.bay b with query := true, reconcile := true }
          else s.bay b)
      ∧ t.sp.notices = s.noticesWith (.portState .b .active tx rx s.bp.link.lastError s.bp.link.overrun .state))
  ∧ (∀ (c : Instr) (s : State), s.work = Work.none →
    (c = .joinComplete .s ∧ s.sp.link.state = .joining ∧ 8 ≤ s.sp.link.gaps)
      ∨ (c = .recoveryComplete .s ∧ s.sp.link.state = .recovering ∧ 80 ≤ s.sp.link.gaps) →
    let tx := if s.sp.link.state = .joining then s.sp.link.tx else 0
    let rx := if s.sp.link.state = .joining then s.sp.link.rx else 0
    let port : SPort := { s.sp with link := { s.sp.link with state := .active, gaps := 0, tx := tx, rx := rx } }
    exec c s = .next { s with
      sp := port.queueNotice s.clock (.portState .s .active tx rx s.sp.link.lastError s.sp.link.overrun .state) })
  ∧ ∀ (s : State) (p : Port), ((s.link p).state ≠ .joining ∨ (s.link p).gaps < 8 →
      exec (.joinComplete p) s = .next s)
    ∧ ((s.link p).state ≠ .recovering ∨ (s.link p).gaps < 80 → exec (.recoveryComplete p) s = .next s)

/-- B_SLOT_FILL (R168, R175). An ACTIVE or CAUTION port fills its lowest EMPTY slot from the first family, in the order
POWER, ACCESS, LAMP, QUERY, that has an eligible mark, on the first eligible bay after the family's pointer; a mark is eligible
on a loaded bay none of whose frames of the family is in a slot, and in CAUTION when its family is POWER or ACCESS alone. The
frame is built from the bay as it stands, the mark is cleared, the pointer moves to the bay and the slot takes the next fill
number. With no mark eligible the head of the relay queue is filled, by an ACTIVE port no slot of which holds a relay frame.
With nothing to fill, with no slot EMPTY, or in another state, nothing changes (the model's choice, notes/assumptions/1). The
lowest EMPTY slot is the model's choice too (notes/assumptions/14). -/
def Obligations.FillServesTheMarksInOrder : Prop :=
  (∀ (s : State) (i : Nat) (o : SlotOutcome), s.bp.link.state = .active ∨ s.bp.link.state = .caution →
    s.bSlot i = .empty o → i < 6 → (∀ j o', j < i → s.bSlot j ≠ .empty o') →
    let owed (fam : Family) (b : Nat) := (s.bay b).loaded = true ∧ (s.bay b).owes fam = true
      ∧ s.slotHolds fam b = false
    let first (fam : Family) (b : Nat) := ∃ k < 128, b = (s.bp.pointer fam + 1 + k) % 128 ∧ owed fam b
      ∧ ∀ j < k, ¬ owed fam ((s.bp.pointer fam + 1 + j) % 128)
    let none' (fam : Family) := ∀ b < 128, ¬ owed fam b
    let filled (t : State) (f : Frame) (origin : FillOrigin) : State := { t with bp := { t.bp with
      slots := t.bp.slots.setIfInBounds i (.pending ⟨f, origin, s.bp.nextFill, false⟩)
      nextFill := s.bp.nextFill + 1 } }
    (∀ b m, first .power b → (s.bay b).power = some m →
      exec .bSlotFill s = .next (filled
        { s.setBay b { s.bay b with power := none } with bp := { s.bp with powerPtr := b } }
        (match m with
          | .deenergise r => ⟨0, 0, 0x13, (s.bay b).post, [BitVec.ofNat 8 r.code]⟩
          | .energise => ⟨2, 0, 0x11, (s.bay b).post, [BitVec.ofNat 8 (s.bay b).ceiling]⟩
          | .setCeiling => ⟨2, 0, 0x12, (s.bay b).post, [BitVec.ofNat 8 (s.bay b).ceiling]⟩) (.power b m)))
    ∧ (∀ b r, none' .power → first .access b → (s.bay b).access = some r →
      exec .bSlotFill s = .next (filled
        { s.setBay b { s.bay b with access := none } with bp := { s.bp with accessPtr := b } }
        ⟨1, 0, 0x14, (s.bay b).post, [BitVec.ofNat 8 r.code]⟩ (.access b r)))
    ∧ (s.bp.link.state = .caution → none' .power → none' .access → exec .bSlotFill s = .next s)
    ∧ (s.bp.link.state = .active → none' .power → none' .access →
      (∀ b, first .lamp b →
        exec .bSlotFill s = .next (filled
          { s.setBay b { s.bay b with lamp := false } with bp := { s.bp with lampPtr := b } }
          ⟨6, 0, 0x10, (s.bay b).post, [BitVec.ofNat 8 (s.lampMode b).code]⟩ (.lamp b)))
      ∧ (∀ b, none' .lamp → first .query b →
        exec .bSlotFill s = .next (filled
          { s.setBay b { s.bay b with query := false } with bp := { s.bp with queryPtr := b } }
          ⟨5, 0, 0x15, (s.bay b).post, []⟩ (.query b)))
      ∧ (none' .lamp → none' .query →
        let busy := ∃ j g, (s.bSlot j).fill? = some g ∧ g.origin = .relay
        (∀ r rs, s.bp.relay = r :: rs → ¬ busy →
          exec .bSlotFill s = .next (filled s ⟨7, 0, r.kind, r.dest, r.payload⟩ .relay))
        ∧ (s.bp.relay = [] ∨ busy → exec .bSlotFill s = .next s))))
  ∧ ∀ s : State, (s.bp.link.state = .joining ∨ s.bp.link.state = .off ∨ s.bp.link.state = .recovering
      ∨ ∀ i o, i < 6 → s.bSlot i ≠ .empty o) → exec .bSlotFill s = .next s

/-- S_SLOT_FILL (R183, R184, R197). An ACTIVE port fills its lowest EMPTY slot with the next segment of the oldest reply
that has none in a slot. When every reply has one, and no notice has, it takes the next segment of the head notice; a
notice filled from its segment 0 while gap pending is set takes the gap flag, and gap pending is cleared. In CAUTION
replies alone are filled. The lowest EMPTY slot is the model's choice and the flag at segment 0 is deduced
(notes/assumptions/14, 15). -/
def Obligations.FillTakesRepliesBeforeNotices : Prop :=
  ∀ (s : State) (i : Nat) (o : SlotOutcome), s.sSlot i = .empty o → i < 2 →
    (∀ j o', j < i → s.sSlot j ≠ .empty o') →
    let filled (p : SPort) (item : SItem) (f : Frame) : State := { s with sp := { p with
      slots := p.slots.setIfInBounds i (.pending ⟨item, f, p.nextFill⟩)
      nextFill := p.nextFill + 1 } }
    (∀ (before after : List Reply) (r : Reply), s.sp.link.state = .active ∨ s.sp.link.state = .caution →
      s.sp.replies = before ++ r :: after → (∀ x ∈ before, s.sp.inSlot (.reply x.id) = true) →
      s.sp.inSlot (.reply r.id) = false →
      exec .sSlotFill s = .next (filled s.sp (.reply r.id) (r.frame s.settings.partAddress r.sent)))
    ∧ (∀ (n : Notice) (rest : List Notice), s.sp.link.state = .active →
      (∀ x ∈ s.sp.replies, s.sp.inSlot (.reply x.id) = true) →
      (∀ j g, (s.sSlot j).fill? = some g → g.item.isNotice = false) → s.sp.notices = n :: rest →
      (∀ x ∈ rest, x.id ≠ n.id) →
      let gap := if n.sent = 0 then n.gap || s.sp.gapPending else n.gap
      exec .sSlotFill s = .next (filled
        { s.sp with
          notices := { n with gap := gap } :: rest
          gapPending := if n.sent = 0 then false else s.sp.gapPending }
        (.notice n.id) (Notice.frame { n with gap := gap } s.settings.partAddress n.sent)))
    ∧ (s.sp.link.state = .caution → (∀ x ∈ s.sp.replies, s.sp.inSlot (.reply x.id) = true) →
      exec .sSlotFill s = .next s)

/-- BEGIN_FRAME (R169, R183): with no frame on the line the port sends a PENDING slot whose priority its state lets
through (0..3 alone in CAUTION), the one with the lowest priority number and among equals the lowest fill number; under
b_tx_order FILL the B-port takes the lowest fill number. With a frame on the line, or none to send, nothing changes.
That last clause is the model's choice (notes/assumptions/1); that a PART_RESET reply goes by its fill number too is deduced
(notes/assumptions/57). -/
def Obligations.BeginChoosesTheMostUrgentSlot : Prop :=
  (∀ s : State,
    let ready (f : Frame) := s.bp.link.state = .active ∨ (s.bp.link.state = .caution ∧ f.priority ≤ 3)
    (∀ i f, s.bSlot i = .pending f → ready f.frame → (∀ j g, s.bSlot j ≠ .sending g) →
      ∃ j g, s.bSlot j = .pending g ∧ ready g.frame ∧ exec (.beginFrame .b) s = .next (s.setBSlot j (.sending g))
        ∧ ∀ k h, s.bSlot k = .pending h → ready h.frame →
          if s.settings.bTxOrder = .priority then
            g.frame.priority < h.frame.priority ∨ (g.frame.priority = h.frame.priority ∧ g.fill ≤ h.fill)
          else g.fill ≤ h.fill)
    ∧ ((∃ j g, j < 6 ∧ s.bSlot j = .sending g) ∨ (∀ j g, s.bSlot j = .pending g → ¬ ready g.frame) →
        exec (.beginFrame .b) s = .next s))
  ∧ ∀ s : State,
    let ready (f : Frame) := s.sp.link.state = .active ∨ (s.sp.link.state = .caution ∧ f.priority ≤ 3)
    (∀ i f, s.sSlot i = .pending f → ready f.frame → (∀ j g, s.sSlot j ≠ .sending g) →
      ∃ j g, s.sSlot j = .pending g ∧ ready g.frame ∧ exec (.beginFrame .s) s = .next (s.setSSlot j (.sending g))
        ∧ ∀ k h, s.sSlot k = .pending h → ready h.frame →
          g.frame.priority < h.frame.priority ∨ (g.frame.priority = h.frame.priority ∧ g.fill ≤ h.fill))
    ∧ ((∃ j g, j < 2 ∧ s.sSlot j = .sending g) ∨ (∀ j g, s.sSlot j = .pending g → ¬ ready g.frame) →
        exec (.beginFrame .s) s = .next s)

/-- FRAME_SENT (R161, R170, R175, R183, R197) on an ACTIVE port with counts below 120: the slot becomes EMPTY with outcome OK
and the transmit count falls by one if above 0; a relay frame leaves the relay queue; a reply or notice goes on to its next
segment, or leaves its queue when that was its last. No PART_RESET is pending. -/
def Obligations.SentFramesLeaveTheirSlots : Prop :=
  (∀ (s : State) (i : Nat) (f : BFill), i < 6 → s.bSlot i = .sending f → (∀ j g, j < i → s.bSlot j ≠ .sending g) →
    s.bp.link.state = .active → s.bp.link.tx < 120 → s.bp.link.rx < 120 →
    exec (.frameSent .b) s = .next { s with bp := { s.bp with
      slots := s.bp.slots.setIfInBounds i (.empty .ok)
      link := { s.bp.link with tx := s.bp.link.tx - 1 }
      relay := if f.origin = .relay then s.bp.relay.tail else s.bp.relay } })
  ∧ ∀ (s : State) (i : Nat) (f : SFill), i < 2 → s.sSlot i = .sending f → (∀ j g, j < i → s.sSlot j ≠ .sending g) →
    s.sp.link.state = .active → s.sp.link.tx < 120 → s.sp.link.rx < 120 → s.sp.resetPending = false →
    let port : SPort := { s.sp with
      slots := s.sp.slots.setIfInBounds i (.empty .ok), link := { s.sp.link with tx := s.sp.link.tx - 1 } }
    (∀ (before after : List Reply) (r : Reply), f.item = .reply r.id → s.sp.replies = before ++ r :: after →
      (∀ x ∈ before ++ after, x.id ≠ r.id) →
      exec (.frameSent .s) s = .next { s with sp := { port with
        replies := if r.sent + 1 < r.segments then before ++ { r with sent := r.sent + 1 } :: after
          else before ++ after } })
    ∧ ∀ (before after : List Notice) (n : Notice), f.item = .notice n.id → s.sp.notices = before ++ n :: after →
      (∀ x ∈ before ++ after, x.id ≠ n.id) →
      exec (.frameSent .s) s = .next { s with sp := { port with
        notices := if n.sent + 1 < n.segments then before ++ { n with sent := n.sent + 1, begun := true } :: after
          else before ++ after } }

/-- TRANSMIT_ERROR and LOST_ARBITRATION (R161, R162, R165, R170, R172, R183). A transmit error takes the transmit count up
by 8 and records its kind, with WARNING when it reaches 64; lost arbitration changes neither count. Either way the slot goes
back to PENDING with its frame and fill number, unless its bay's mark of the family has been set again while it was SENDING,
which the slot remembers (the model's own record, notes/assumptions/51; PowerMarksMerge says when it is set): then the slot is aborted and what it was filled from is owed again, a POWER mark merged with the newer one, an ACCESS
reason yielding to it, LAMP and QUERY set; a relay frame has kept its place in the relay queue. An error that takes the
count of an ACTIVE port to 120 or more takes the port to CAUTION with PORT_STATE; there a returning frame of priority 4..7
is aborted too, as is every PENDING one, and on the S-port a returning or PENDING notice, which starts again where it stood in
its queue. That a PENDING notice slot is empty, and a returning one not yet, when PORT_STATE is queued is the model's choice
(notes/assumptions/61). With no frame on the line nothing changes, again by the model's choice (notes/assumptions/1, 35). -/
def Obligations.UnsentFramesReturn : Prop :=
  (∀ (s : State) (i : Nat) (f : BFill), i < 6 → s.bSlot i = .sending f → (∀ j g, j < i → s.bSlot j ≠ .sending g) →
    let aborted (u : State) : State :=
      let v := u.setBSlot i (.empty .aborted)
      match f.origin with
      | .power b m => v.setBay b { u.bay b with
          power := some (match (u.bay b).power with | none => m | some n => mergePower m n) }
      | .access b r => v.setBay b { u.bay b with access := some ((u.bay b).access.getD r) }
      | .lamp b => v.setBay b { u.bay b with lamp := true }
      | .query b => v.setBay b { u.bay b with query := true }
      | .relay => v
    let back (u : State) (st : PortState) : State :=
      if f.remarked = true ∨ (st = .caution ∧ 4 ≤ f.frame.priority) then aborted u else u.setBSlot i (.pending f)
    let link (e : TxError) : Link := { s.bp.link with
      tx := min 255 (s.bp.link.tx + 8), lastError := some (txErrorKind e) }
    let warned (e : TxError) : State := { s with
      bp := { s.bp with link := link e }
      sp := if s.bp.link.tx < 64 ∧ 64 ≤ s.bp.link.tx + 8 then s.sp.queueNotice s.clock
          (.portState .b s.bp.link.state (s.bp.link.tx + 8) s.bp.link.rx (some (txErrorKind e)) s.bp.link.overrun
            .warning) else s.sp }
    exec (.lostArbitration .b) s = .next (back s s.bp.link.state)
    ∧ (∀ e : TxError, s.bp.link.state = .active → s.bp.link.tx < 112 → s.bp.link.rx < 120 →
      exec (.transmitError .b e) s = .next (back (warned e) .active))
    ∧ (∀ e : TxError, s.bp.link.state = .caution → 112 ≤ s.bp.link.tx → s.bp.link.tx < 216 →
      exec (.transmitError .b e) s = .next (back (warned e) .caution))
    ∧ ∀ e : TxError, s.bp.link.state = .active → 112 ≤ s.bp.link.tx → s.bp.link.tx < 216 →
      ∃ t, exec (.transmitError .b e) s = .next t ∧ t.level = s.level ∧ t.settings = s.settings
        ∧ t.bp.link = { link e with state := .caution } ∧ t.bp.relay = s.bp.relay ∧ t.bp.rxq = s.bp.rxq
        ∧ t.bSlot i = (if f.remarked = true ∨ 4 ≤ f.frame.priority then .empty .aborted else .pending f)
        ∧ (∀ j g, s.bSlot j = .pending g →
            t.bSlot j = if 4 ≤ g.frame.priority then .empty .aborted else .pending g)
        ∧ (∀ b, (t.bay b).sansMarks = (s.bay b).sansMarks)
        ∧ (∀ b fam, b < 128 → ((t.bay b).owes fam = true ↔ (s.bay b).owes fam = true
            ∨ (f.origin.isFor fam b = true ∧ (f.remarked = true ∨ 4 ≤ f.frame.priority))
            ∨ ∃ j g, s.bSlot j = .pending g ∧ g.origin.isFor fam b = true ∧ 4 ≤ g.frame.priority))
        ∧ t.sp.notices = s.noticesWith (.portState .b .caution (s.bp.link.tx + 8) s.bp.link.rx
            (some (txErrorKind e)) s.bp.link.overrun .state))
  ∧ (∀ (s : State) (i : Nat) (f : SFill), i < 2 → s.sSlot i = .sending f → (∀ j g, j < i → s.sSlot j ≠ .sending g) →
    let restarted (u : SPort) : SPort := match f.item with
      | .reply id => { u with replies := u.replies.map fun r => if r.id = id then { r with sent := 0 } else r }
      | .notice id => { u with notices := u.notices.map fun n => if n.id = id then { n with sent := 0 } else n }
    let back (u : SPort) (st : PortState) : SPort :=
      if st = .caution ∧ f.item.isNotice = true then
        restarted { u with slots := u.slots.setIfInBounds i (.empty .aborted) }
      else { u with slots := u.slots.setIfInBounds i (.pending f) }
    let link (e : TxError) : Link := { s.sp.link with
      tx := min 255 (s.sp.link.tx + 8), lastError := some (txErrorKind e) }
    let warned (e : TxError) : SPort :=
      let u : SPort := { s.sp with link := link e }
      if s.sp.link.tx < 64 ∧ 64 ≤ s.sp.link.tx + 8 then u.queueNotice s.clock
        (.portState .s s.sp.link.state (s.sp.link.tx + 8) s.sp.link.rx (some (txErrorKind e)) s.sp.link.overrun
          .warning) else u
    exec (.lostArbitration .s) s = .next { s with sp := back s.sp s.sp.link.state }
    ∧ (∀ e : TxError, s.sp.link.state = .active → s.sp.link.tx < 112 → s.sp.link.rx < 120 →
      exec (.transmitError .s e) s = .next { s with sp := back (warned e) .active })
    ∧ (∀ e : TxError, s.sp.link.state = .caution → 112 ≤ s.sp.link.tx → s.sp.link.tx < 216 →
      exec (.transmitError .s e) s = .next { s with sp := back (warned e) .caution })
    ∧ ∀ e : TxError, s.sp.link.state = .active → 112 ≤ s.sp.link.tx → s.sp.link.tx < 216 →
      let u : SPort := { s.sp with link := { link e with state := .caution } }
      let v := u.noticesReturned.queueNotice s.clock
        (.portState .s .caution (s.sp.link.tx + 8) s.sp.link.rx (some (txErrorKind e)) s.sp.link.overrun .state)
      exec (.transmitError .s e) s = .next { s with sp := back v .caution })
  ∧ ∀ (s : State) (p : Port) (e : TxError), s.sendingOn p = false →
    exec (.transmitError p e) s = .next s ∧ exec (.lostArbitration p) s = .next s

/-- Entry to OFF (R35, R163, R178): a transmit error that takes the transmit count of an ACTIVE or CAUTION port to 224
or more takes the port to OFF. On the B-port every filled slot completes FAILED with its frame returned to owed, the
outage flag is set, every running SETTLE, GRACE and PLUG_WAIT timer that is not yet due is frozen with its remaining
ticks, PORT_STATE is queued with state OFF, and under b_recovery AUTO the port goes on to RECOVERING, with a second
PORT_STATE. On the S-port every filled slot completes FAILED, its item starting again from segment 0, and the port goes on to
RECOVERING, with a PORT_STATE for each of the two states, unless a PART_RESET is pending, which then takes effect. That a
timer already due goes on running is deduced (notes/assumptions/23), and that the S-port's slots are empty before its
PORT_STATE is queued is the model's choice (notes/assumptions/61). -/
def Obligations.TransmitErrorsLeadToOff : Prop :=
  (∀ (s : State) (e : TxError), s.sendingOn .b = true → s.bp.link.state = .active ∨ s.bp.link.state = .caution →
    216 ≤ s.bp.link.tx →
    let said (st : PortState) : NoticeBody := .portState .b st (min 255 (s.bp.link.tx + 8)) s.bp.link.rx
      (some (txErrorKind e)) s.bp.link.overrun .state
    let off := s.sp.queueNotice s.clock (said .off)
    ∃ t, exec (.transmitError .b e) s = .next t ∧ t.level = s.level ∧ t.clock = s.clock ∧ t.settings = s.settings
      ∧ t.bp.link = { s.bp.link with
          state := if s.settings.bRecovery = .auto then .recovering else .off
          tx := min 255 (s.bp.link.tx + 8), lastError := some (txErrorKind e), gaps := 0 }
      ∧ t.sp = (if s.settings.bRecovery = .auto then off.queueNotice s.clock (said .recovering) else off)
      ∧ t.bp.outage = true ∧ t.bp.relay = s.bp.relay ∧ t.bp.rxq = s.bp.rxq
      ∧ (∀ i, t.bSlot i = match s.bSlot i with | .empty o => .empty o | _ => .empty .failed)
      ∧ (∀ b fam, b < 128 → (t.bay b).owes fam = ((s.bay b).owes fam || s.slotHolds fam b))
      ∧ ∀ b, (t.bay b).sansMarks = ({ s.bay b with timer := match (s.bay b).timer with
          | .running d p =>
            if (p = .settle ∨ p = .grace ∨ p = .plugWait) ∧ 0 < diff d s.clock then
              .frozen (diff d s.clock).toNat p
            else .running d p
          | x => x } : Bay).sansMarks)
  ∧ (∀ (s : State) (e : TxError), s.sendingOn .s = true → s.sp.link.state = .active ∨ s.sp.link.state = .caution →
    216 ≤ s.sp.link.tx → s.sp.resetPending = false →
    let l : Link := { s.sp.link with
      tx := min 255 (s.sp.link.tx + 8), lastError := some (txErrorKind e), gaps := 0 }
    let said (st : PortState) : NoticeBody := .portState .s st l.tx l.rx l.lastError l.overrun .state
    let failed : SPort := { s.sp with
      link := { l with state := .recovering }
      slots := s.sp.slots.map fun x => match x with | .empty o => .empty o | _ => .empty .failed
      replies := s.sp.replies.map fun r => if s.sp.inSlot (.reply r.id) = true then { r with sent := 0 } else r
      notices := s.sp.notices.map fun n => if s.sp.inSlot (.notice n.id) = true then { n with sent := 0 } else n }
    exec (.transmitError .s e) s = .next { s with
      sp := (failed.queueNotice s.clock (said .off)).queueNotice s.clock (said .recovering) })
  ∧ ∀ (s : State) (e : TxError), s.sendingOn .s = true → s.sp.link.state = .active ∨ s.sp.link.state = .caution →
    216 ≤ s.sp.link.tx → s.sp.resetPending = true →
    exec (.transmitError .s e) s = .next { State.reset with pending := s.pending }
end

