-- ==== Sys2Proof/Laws/State.lean ====
section
/-! SUPPORT. What each named update of State leaves alone, field by field: every lemma is true by `rfl` and is a simp lemma,
so that no later proof unfolds a record update. -/

namespace Sys2Proof.Machine

/-! ### State.setBay -/

section
variable (s : State) (b : Nat) (x : Bay)

@[simp] theorem State.setBay_pending : (s.setBay b x).pending = s.pending := rfl
@[simp] theorem State.setBay_classes : (s.setBay b x).classes = s.classes := rfl
@[simp] theorem State.setBay_clock : (s.setBay b x).clock = s.clock := rfl
@[simp] theorem State.setBay_clockSet : (s.setBay b x).clockSet = s.clockSet := rfl
@[simp] theorem State.setBay_phase : (s.setBay b x).phase = s.phase := rfl
@[simp] theorem State.setBay_book : (s.setBay b x).book = s.book := rfl
@[simp] theorem State.setBay_gens : (s.setBay b x).gens = s.gens := rfl
@[simp] theorem State.setBay_waiting : (s.setBay b x).waiting = s.waiting := rfl
@[simp] theorem State.setBay_nextOrder : (s.setBay b x).nextOrder = s.nextOrder := rfl
@[simp] theorem State.setBay_policy : (s.setBay b x).policy = s.policy := rfl
@[simp] theorem State.setBay_walkups : (s.setBay b x).walkups = s.walkups := rfl
@[simp] theorem State.setBay_active : (s.setBay b x).active = s.active := rfl
@[simp] theorem State.setBay_staged : (s.setBay b x).staged = s.staged := rfl
@[simp] theorem State.setBay_armed : (s.setBay b x).armed = s.armed := rfl
@[simp] theorem State.setBay_inForce : (s.setBay b x).inForce = s.inForce := rfl
@[simp] theorem State.setBay_energised : (s.setBay b x).energised = s.energised := rfl
@[simp] theorem State.setBay_queues : (s.setBay b x).queues = s.queues := rfl
@[simp] theorem State.setBay_settings : (s.setBay b x).settings = s.settings := rfl
@[simp] theorem State.setBay_bp : (s.setBay b x).bp = s.bp := rfl
@[simp] theorem State.setBay_sp : (s.setBay b x).sp = s.sp := rfl
@[simp] theorem State.setBay_switchDue : (s.setBay b x).switchDue = s.switchDue := rfl
@[simp] theorem State.setBay_unservedDue : (s.setBay b x).unservedDue = s.unservedDue := rfl
@[simp] theorem State.setBay_work : (s.setBay b x).work = s.work := rfl

end

/-! ### State.modBay -/

section
variable (s : State) (b : Nat) (f : Bay → Bay)

@[simp] theorem State.modBay_pending : (s.modBay b f).pending = s.pending := rfl
@[simp] theorem State.modBay_classes : (s.modBay b f).classes = s.classes := rfl
@[simp] theorem State.modBay_clock : (s.modBay b f).clock = s.clock := rfl
@[simp] theorem State.modBay_clockSet : (s.modBay b f).clockSet = s.clockSet := rfl
@[simp] theorem State.modBay_phase : (s.modBay b f).phase = s.phase := rfl
@[simp] theorem State.modBay_book : (s.modBay b f).book = s.book := rfl
@[simp] theorem State.modBay_gens : (s.modBay b f).gens = s.gens := rfl
@[simp] theorem State.modBay_waiting : (s.modBay b f).waiting = s.waiting := rfl
@[simp] theorem State.modBay_nextOrder : (s.modBay b f).nextOrder = s.nextOrder := rfl
@[simp] theorem State.modBay_policy : (s.modBay b f).policy = s.policy := rfl
@[simp] theorem State.modBay_walkups : (s.modBay b f).walkups = s.walkups := rfl
@[simp] theorem State.modBay_active : (s.modBay b f).active = s.active := rfl
@[simp] theorem State.modBay_staged : (s.modBay b f).staged = s.staged := rfl
@[simp] theorem State.modBay_armed : (s.modBay b f).armed = s.armed := rfl
@[simp] theorem State.modBay_inForce : (s.modBay b f).inForce = s.inForce := rfl
@[simp] theorem State.modBay_energised : (s.modBay b f).energised = s.energised := rfl
@[simp] theorem State.modBay_queues : (s.modBay b f).queues = s.queues := rfl
@[simp] theorem State.modBay_settings : (s.modBay b f).settings = s.settings := rfl
@[simp] theorem State.modBay_bp : (s.modBay b f).bp = s.bp := rfl
@[simp] theorem State.modBay_sp : (s.modBay b f).sp = s.sp := rfl
@[simp] theorem State.modBay_switchDue : (s.modBay b f).switchDue = s.switchDue := rfl
@[simp] theorem State.modBay_unservedDue : (s.modBay b f).unservedDue = s.unservedDue := rfl
@[simp] theorem State.modBay_work : (s.modBay b f).work = s.work := rfl

end

/-! ### setTimer -/

section
variable (b : Nat) (t : Timer) (s : State)

@[simp] theorem setTimer_pending : (setTimer b t s).pending = s.pending := rfl
@[simp] theorem setTimer_classes : (setTimer b t s).classes = s.classes := rfl
@[simp] theorem setTimer_clock : (setTimer b t s).clock = s.clock := rfl
@[simp] theorem setTimer_clockSet : (setTimer b t s).clockSet = s.clockSet := rfl
@[simp] theorem setTimer_phase : (setTimer b t s).phase = s.phase := rfl
@[simp] theorem setTimer_book : (setTimer b t s).book = s.book := rfl
@[simp] theorem setTimer_gens : (setTimer b t s).gens = s.gens := rfl
@[simp] theorem setTimer_waiting : (setTimer b t s).waiting = s.waiting := rfl
@[simp] theorem setTimer_nextOrder : (setTimer b t s).nextOrder = s.nextOrder := rfl
@[simp] theorem setTimer_policy : (setTimer b t s).policy = s.policy := rfl
@[simp] theorem setTimer_walkups : (setTimer b t s).walkups = s.walkups := rfl
@[simp] theorem setTimer_active : (setTimer b t s).active = s.active := rfl
@[simp] theorem setTimer_staged : (setTimer b t s).staged = s.staged := rfl
@[simp] theorem setTimer_armed : (setTimer b t s).armed = s.armed := rfl
@[simp] theorem setTimer_inForce : (setTimer b t s).inForce = s.inForce := rfl
@[simp] theorem setTimer_energised : (setTimer b t s).energised = s.energised := rfl
@[simp] theorem setTimer_queues : (setTimer b t s).queues = s.queues := rfl
@[simp] theorem setTimer_settings : (setTimer b t s).settings = s.settings := rfl
@[simp] theorem setTimer_bp : (setTimer b t s).bp = s.bp := rfl
@[simp] theorem setTimer_sp : (setTimer b t s).sp = s.sp := rfl
@[simp] theorem setTimer_switchDue : (setTimer b t s).switchDue = s.switchDue := rfl
@[simp] theorem setTimer_unservedDue : (setTimer b t s).unservedDue = s.unservedDue := rfl
@[simp] theorem setTimer_work : (setTimer b t s).work = s.work := rfl

end

/-! ### setBayState -/

section
variable (b : Nat) (x : BayState) (s : State)

@[simp] theorem setBayState_pending : (setBayState b x s).pending = s.pending := rfl
@[simp] theorem setBayState_classes : (setBayState b x s).classes = s.classes := rfl
@[simp] theorem setBayState_clock : (setBayState b x s).clock = s.clock := rfl
@[simp] theorem setBayState_clockSet : (setBayState b x s).clockSet = s.clockSet := rfl
@[simp] theorem setBayState_phase : (setBayState b x s).phase = s.phase := rfl
@[simp] theorem setBayState_book : (setBayState b x s).book = s.book := rfl
@[simp] theorem setBayState_gens : (setBayState b x s).gens = s.gens := rfl
@[simp] theorem setBayState_waiting : (setBayState b x s).waiting = s.waiting := rfl
@[simp] theorem setBayState_nextOrder : (setBayState b x s).nextOrder = s.nextOrder := rfl
@[simp] theorem setBayState_policy : (setBayState b x s).policy = s.policy := rfl
@[simp] theorem setBayState_walkups : (setBayState b x s).walkups = s.walkups := rfl
@[simp] theorem setBayState_active : (setBayState b x s).active = s.active := rfl
@[simp] theorem setBayState_staged : (setBayState b x s).staged = s.staged := rfl
@[simp] theorem setBayState_armed : (setBayState b x s).armed = s.armed := rfl
@[simp] theorem setBayState_inForce : (setBayState b x s).inForce = s.inForce := rfl
@[simp] theorem setBayState_energised : (setBayState b x s).energised = s.energised := rfl
@[simp] theorem setBayState_queues : (setBayState b x s).queues = s.queues := rfl
@[simp] theorem setBayState_settings : (setBayState b x s).settings = s.settings := rfl
@[simp] theorem setBayState_bp : (setBayState b x s).bp = s.bp := rfl
@[simp] theorem setBayState_sp : (setBayState b x s).sp = s.sp := rfl
@[simp] theorem setBayState_switchDue : (setBayState b x s).switchDue = s.switchDue := rfl
@[simp] theorem setBayState_unservedDue : (setBayState b x s).unservedDue = s.unservedDue := rfl
@[simp] theorem setBayState_work : (setBayState b x s).work = s.work := rfl

end

/-! ### freeBay -/

section
variable (b : Nat) (s : State)

@[simp] theorem freeBay_pending : (freeBay b s).pending = s.pending := rfl
@[simp] theorem freeBay_classes : (freeBay b s).classes = s.classes := rfl
@[simp] theorem freeBay_clock : (freeBay b s).clock = s.clock := rfl
@[simp] theorem freeBay_clockSet : (freeBay b s).clockSet = s.clockSet := rfl
@[simp] theorem freeBay_phase : (freeBay b s).phase = s.phase := rfl
@[simp] theorem freeBay_book : (freeBay b s).book = s.book := rfl
@[simp] theorem freeBay_gens : (freeBay b s).gens = s.gens := rfl
@[simp] theorem freeBay_waiting : (freeBay b s).waiting = s.waiting := rfl
@[simp] theorem freeBay_nextOrder : (freeBay b s).nextOrder = s.nextOrder := rfl
@[simp] theorem freeBay_policy : (freeBay b s).policy = s.policy := rfl
@[simp] theorem freeBay_walkups : (freeBay b s).walkups = s.walkups := rfl
@[simp] theorem freeBay_active : (freeBay b s).active = s.active := rfl
@[simp] theorem freeBay_staged : (freeBay b s).staged = s.staged := rfl
@[simp] theorem freeBay_armed : (freeBay b s).armed = s.armed := rfl
@[simp] theorem freeBay_inForce : (freeBay b s).inForce = s.inForce := rfl
@[simp] theorem freeBay_energised : (freeBay b s).energised = s.energised := rfl
@[simp] theorem freeBay_queues : (freeBay b s).queues = s.queues := rfl
@[simp] theorem freeBay_settings : (freeBay b s).settings = s.settings := rfl
@[simp] theorem freeBay_bp : (freeBay b s).bp = s.bp := rfl
@[simp] theorem freeBay_sp : (freeBay b s).sp = s.sp := rfl
@[simp] theorem freeBay_switchDue : (freeBay b s).switchDue = s.switchDue := rfl
@[simp] theorem freeBay_unservedDue : (freeBay b s).unservedDue = s.unservedDue := rfl
@[simp] theorem freeBay_work : (freeBay b s).work = s.work := rfl

end

/-! ### takeOff -/

section
variable (b : Nat) (s : State)

@[simp] theorem takeOff_pending : (takeOff b s).pending = s.pending := rfl
@[simp] theorem takeOff_classes : (takeOff b s).classes = s.classes := rfl
@[simp] theorem takeOff_clock : (takeOff b s).clock = s.clock := rfl
@[simp] theorem takeOff_clockSet : (takeOff b s).clockSet = s.clockSet := rfl
@[simp] theorem takeOff_phase : (takeOff b s).phase = s.phase := rfl
@[simp] theorem takeOff_book : (takeOff b s).book = s.book := rfl
@[simp] theorem takeOff_gens : (takeOff b s).gens = s.gens := rfl
@[simp] theorem takeOff_waiting : (takeOff b s).waiting = s.waiting := rfl
@[simp] theorem takeOff_nextOrder : (takeOff b s).nextOrder = s.nextOrder := rfl
@[simp] theorem takeOff_policy : (takeOff b s).policy = s.policy := rfl
@[simp] theorem takeOff_walkups : (takeOff b s).walkups = s.walkups := rfl
@[simp] theorem takeOff_active : (takeOff b s).active = s.active := rfl
@[simp] theorem takeOff_staged : (takeOff b s).staged = s.staged := rfl
@[simp] theorem takeOff_armed : (takeOff b s).armed = s.armed := rfl
@[simp] theorem takeOff_inForce : (takeOff b s).inForce = s.inForce := rfl
@[simp] theorem takeOff_energised : (takeOff b s).energised = s.energised := rfl
@[simp] theorem takeOff_queues : (takeOff b s).queues = s.queues := rfl
@[simp] theorem takeOff_settings : (takeOff b s).settings = s.settings := rfl
@[simp] theorem takeOff_bp : (takeOff b s).bp = s.bp := rfl
@[simp] theorem takeOff_sp : (takeOff b s).sp = s.sp := rfl
@[simp] theorem takeOff_switchDue : (takeOff b s).switchDue = s.switchDue := rfl
@[simp] theorem takeOff_unservedDue : (takeOff b s).unservedDue = s.unservedDue := rfl
@[simp] theorem takeOff_work : (takeOff b s).work = s.work := rfl

end

/-! ### State.modRec -/

section
variable (s : State) (h : Nat) (f : Reservation → Reservation)

@[simp] theorem State.modRec_pending : (s.modRec h f).pending = s.pending := rfl
@[simp] theorem State.modRec_bays : (s.modRec h f).bays = s.bays := rfl
@[simp] theorem State.modRec_classes : (s.modRec h f).classes = s.classes := rfl
@[simp] theorem State.modRec_clock : (s.modRec h f).clock = s.clock := rfl
@[simp] theorem State.modRec_clockSet : (s.modRec h f).clockSet = s.clockSet := rfl
@[simp] theorem State.modRec_phase : (s.modRec h f).phase = s.phase := rfl
@[simp] theorem State.modRec_gens : (s.modRec h f).gens = s.gens := rfl
@[simp] theorem State.modRec_waiting : (s.modRec h f).waiting = s.waiting := rfl
@[simp] theorem State.modRec_nextOrder : (s.modRec h f).nextOrder = s.nextOrder := rfl
@[simp] theorem State.modRec_policy : (s.modRec h f).policy = s.policy := rfl
@[simp] theorem State.modRec_walkups : (s.modRec h f).walkups = s.walkups := rfl
@[simp] theorem State.modRec_active : (s.modRec h f).active = s.active := rfl
@[simp] theorem State.modRec_staged : (s.modRec h f).staged = s.staged := rfl
@[simp] theorem State.modRec_armed : (s.modRec h f).armed = s.armed := rfl
@[simp] theorem State.modRec_inForce : (s.modRec h f).inForce = s.inForce := rfl
@[simp] theorem State.modRec_energised : (s.modRec h f).energised = s.energised := rfl
@[simp] theorem State.modRec_queues : (s.modRec h f).queues = s.queues := rfl
@[simp] theorem State.modRec_settings : (s.modRec h f).settings = s.settings := rfl
@[simp] theorem State.modRec_bp : (s.modRec h f).bp = s.bp := rfl
@[simp] theorem State.modRec_sp : (s.modRec h f).sp = s.sp := rfl
@[simp] theorem State.modRec_switchDue : (s.modRec h f).switchDue = s.switchDue := rfl
@[simp] theorem State.modRec_unservedDue : (s.modRec h f).unservedDue = s.unservedDue := rfl
@[simp] theorem State.modRec_work : (s.modRec h f).work = s.work := rfl

end

/-! ### insertRecord -/

section
variable (r : Reservation) (s : State)

@[simp] theorem insertRecord_pending : (insertRecord r s).pending = s.pending := rfl
@[simp] theorem insertRecord_bays : (insertRecord r s).bays = s.bays := rfl
@[simp] theorem insertRecord_classes : (insertRecord r s).classes = s.classes := rfl
@[simp] theorem insertRecord_clock : (insertRecord r s).clock = s.clock := rfl
@[simp] theorem insertRecord_clockSet : (insertRecord r s).clockSet = s.clockSet := rfl
@[simp] theorem insertRecord_phase : (insertRecord r s).phase = s.phase := rfl
@[simp] theorem insertRecord_gens : (insertRecord r s).gens = s.gens := rfl
@[simp] theorem insertRecord_waiting : (insertRecord r s).waiting = s.waiting := rfl
@[simp] theorem insertRecord_nextOrder : (insertRecord r s).nextOrder = s.nextOrder := rfl
@[simp] theorem insertRecord_policy : (insertRecord r s).policy = s.policy := rfl
@[simp] theorem insertRecord_walkups : (insertRecord r s).walkups = s.walkups := rfl
@[simp] theorem insertRecord_active : (insertRecord r s).active = s.active := rfl
@[simp] theorem insertRecord_staged : (insertRecord r s).staged = s.staged := rfl
@[simp] theorem insertRecord_armed : (insertRecord r s).armed = s.armed := rfl
@[simp] theorem insertRecord_inForce : (insertRecord r s).inForce = s.inForce := rfl
@[simp] theorem insertRecord_energised : (insertRecord r s).energised = s.energised := rfl
@[simp] theorem insertRecord_queues : (insertRecord r s).queues = s.queues := rfl
@[simp] theorem insertRecord_settings : (insertRecord r s).settings = s.settings := rfl
@[simp] theorem insertRecord_bp : (insertRecord r s).bp = s.bp := rfl
@[simp] theorem insertRecord_sp : (insertRecord r s).sp = s.sp := rfl
@[simp] theorem insertRecord_switchDue : (insertRecord r s).switchDue = s.switchDue := rfl
@[simp] theorem insertRecord_unservedDue : (insertRecord r s).unservedDue = s.unservedDue := rfl
@[simp] theorem insertRecord_work : (insertRecord r s).work = s.work := rfl

end

/-! ### rebind -/

section
variable (b : Nat) (s : State)

@[simp] theorem rebind_pending : (rebind b s).pending = s.pending := rfl
@[simp] theorem rebind_bays : (rebind b s).bays = s.bays := rfl
@[simp] theorem rebind_classes : (rebind b s).classes = s.classes := rfl
@[simp] theorem rebind_clock : (rebind b s).clock = s.clock := rfl
@[simp] theorem rebind_clockSet : (rebind b s).clockSet = s.clockSet := rfl
@[simp] theorem rebind_phase : (rebind b s).phase = s.phase := rfl
@[simp] theorem rebind_gens : (rebind b s).gens = s.gens := rfl
@[simp] theorem rebind_waiting : (rebind b s).waiting = s.waiting := rfl
@[simp] theorem rebind_nextOrder : (rebind b s).nextOrder = s.nextOrder := rfl
@[simp] theorem rebind_policy : (rebind b s).policy = s.policy := rfl
@[simp] theorem rebind_walkups : (rebind b s).walkups = s.walkups := rfl
@[simp] theorem rebind_active : (rebind b s).active = s.active := rfl
@[simp] theorem rebind_staged : (rebind b s).staged = s.staged := rfl
@[simp] theorem rebind_armed : (rebind b s).armed = s.armed := rfl
@[simp] theorem rebind_inForce : (rebind b s).inForce = s.inForce := rfl
@[simp] theorem rebind_energised : (rebind b s).energised = s.energised := rfl
@[simp] theorem rebind_queues : (rebind b s).queues = s.queues := rfl
@[simp] theorem rebind_settings : (rebind b s).settings = s.settings := rfl
@[simp] theorem rebind_bp : (rebind b s).bp = s.bp := rfl
@[simp] theorem rebind_sp : (rebind b s).sp = s.sp := rfl
@[simp] theorem rebind_switchDue : (rebind b s).switchDue = s.switchDue := rfl
@[simp] theorem rebind_unservedDue : (rebind b s).unservedDue = s.unservedDue := rfl
@[simp] theorem rebind_work : (rebind b s).work = s.work := rfl

end

/-! ### addRecord -/

section
variable (r : Reservation) (s : State)

@[simp] theorem addRecord_pending : (addRecord r s).pending = s.pending := rfl
@[simp] theorem addRecord_bays : (addRecord r s).bays = s.bays := rfl
@[simp] theorem addRecord_classes : (addRecord r s).classes = s.classes := rfl
@[simp] theorem addRecord_clock : (addRecord r s).clock = s.clock := rfl
@[simp] theorem addRecord_clockSet : (addRecord r s).clockSet = s.clockSet := rfl
@[simp] theorem addRecord_phase : (addRecord r s).phase = s.phase := rfl
@[simp] theorem addRecord_gens : (addRecord r s).gens = s.gens := rfl
@[simp] theorem addRecord_waiting : (addRecord r s).waiting = s.waiting := rfl
@[simp] theorem addRecord_policy : (addRecord r s).policy = s.policy := rfl
@[simp] theorem addRecord_walkups : (addRecord r s).walkups = s.walkups := rfl
@[simp] theorem addRecord_active : (addRecord r s).active = s.active := rfl
@[simp] theorem addRecord_staged : (addRecord r s).staged = s.staged := rfl
@[simp] theorem addRecord_armed : (addRecord r s).armed = s.armed := rfl
@[simp] theorem addRecord_inForce : (addRecord r s).inForce = s.inForce := rfl
@[simp] theorem addRecord_energised : (addRecord r s).energised = s.energised := rfl
@[simp] theorem addRecord_queues : (addRecord r s).queues = s.queues := rfl
@[simp] theorem addRecord_settings : (addRecord r s).settings = s.settings := rfl
@[simp] theorem addRecord_bp : (addRecord r s).bp = s.bp := rfl
@[simp] theorem addRecord_sp : (addRecord r s).sp = s.sp := rfl
@[simp] theorem addRecord_switchDue : (addRecord r s).switchDue = s.switchDue := rfl
@[simp] theorem addRecord_unservedDue : (addRecord r s).unservedDue = s.unservedDue := rfl
@[simp] theorem addRecord_work : (addRecord r s).work = s.work := rfl

end

/-! ### joinWaiting -/

section
variable (r : Reservation) (s : State)

@[simp] theorem joinWaiting_pending : (joinWaiting r s).pending = s.pending := rfl
@[simp] theorem joinWaiting_bays : (joinWaiting r s).bays = s.bays := rfl
@[simp] theorem joinWaiting_classes : (joinWaiting r s).classes = s.classes := rfl
@[simp] theorem joinWaiting_clock : (joinWaiting r s).clock = s.clock := rfl
@[simp] theorem joinWaiting_clockSet : (joinWaiting r s).clockSet = s.clockSet := rfl
@[simp] theorem joinWaiting_phase : (joinWaiting r s).phase = s.phase := rfl
@[simp] theorem joinWaiting_book : (joinWaiting r s).book = s.book := rfl
@[simp] theorem joinWaiting_gens : (joinWaiting r s).gens = s.gens := rfl
@[simp] theorem joinWaiting_nextOrder : (joinWaiting r s).nextOrder = s.nextOrder := rfl
@[simp] theorem joinWaiting_policy : (joinWaiting r s).policy = s.policy := rfl
@[simp] theorem joinWaiting_walkups : (joinWaiting r s).walkups = s.walkups := rfl
@[simp] theorem joinWaiting_active : (joinWaiting r s).active = s.active := rfl
@[simp] theorem joinWaiting_staged : (joinWaiting r s).staged = s.staged := rfl
@[simp] theorem joinWaiting_armed : (joinWaiting r s).armed = s.armed := rfl
@[simp] theorem joinWaiting_inForce : (joinWaiting r s).inForce = s.inForce := rfl
@[simp] theorem joinWaiting_energised : (joinWaiting r s).energised = s.energised := rfl
@[simp] theorem joinWaiting_queues : (joinWaiting r s).queues = s.queues := rfl
@[simp] theorem joinWaiting_settings : (joinWaiting r s).settings = s.settings := rfl
@[simp] theorem joinWaiting_bp : (joinWaiting r s).bp = s.bp := rfl
@[simp] theorem joinWaiting_sp : (joinWaiting r s).sp = s.sp := rfl
@[simp] theorem joinWaiting_switchDue : (joinWaiting r s).switchDue = s.switchDue := rfl
@[simp] theorem joinWaiting_unservedDue : (joinWaiting r s).unservedDue = s.unservedDue := rfl
@[simp] theorem joinWaiting_work : (joinWaiting r s).work = s.work := rfl

end

/-! ### leaveWaiting -/

section
variable (h : Nat) (s : State)

@[simp] theorem leaveWaiting_pending : (leaveWaiting h s).pending = s.pending := rfl
@[simp] theorem leaveWaiting_bays : (leaveWaiting h s).bays = s.bays := rfl
@[simp] theorem leaveWaiting_classes : (leaveWaiting h s).classes = s.classes := rfl
@[simp] theorem leaveWaiting_clock : (leaveWaiting h s).clock = s.clock := rfl
@[simp] theorem leaveWaiting_clockSet : (leaveWaiting h s).clockSet = s.clockSet := rfl
@[simp] theorem leaveWaiting_phase : (leaveWaiting h s).phase = s.phase := rfl
@[simp] theorem leaveWaiting_book : (leaveWaiting h s).book = s.book := rfl
@[simp] theorem leaveWaiting_gens : (leaveWaiting h s).gens = s.gens := rfl
@[simp] theorem leaveWaiting_nextOrder : (leaveWaiting h s).nextOrder = s.nextOrder := rfl
@[simp] theorem leaveWaiting_policy : (leaveWaiting h s).policy = s.policy := rfl
@[simp] theorem leaveWaiting_walkups : (leaveWaiting h s).walkups = s.walkups := rfl
@[simp] theorem leaveWaiting_active : (leaveWaiting h s).active = s.active := rfl
@[simp] theorem leaveWaiting_staged : (leaveWaiting h s).staged = s.staged := rfl
@[simp] theorem leaveWaiting_armed : (leaveWaiting h s).armed = s.armed := rfl
@[simp] theorem leaveWaiting_inForce : (leaveWaiting h s).inForce = s.inForce := rfl
@[simp] theorem leaveWaiting_energised : (leaveWaiting h s).energised = s.energised := rfl
@[simp] theorem leaveWaiting_queues : (leaveWaiting h s).queues = s.queues := rfl
@[simp] theorem leaveWaiting_settings : (leaveWaiting h s).settings = s.settings := rfl
@[simp] theorem leaveWaiting_bp : (leaveWaiting h s).bp = s.bp := rfl
@[simp] theorem leaveWaiting_sp : (leaveWaiting h s).sp = s.sp := rfl
@[simp] theorem leaveWaiting_switchDue : (leaveWaiting h s).switchDue = s.switchDue := rfl
@[simp] theorem leaveWaiting_unservedDue : (leaveWaiting h s).unservedDue = s.unservedDue := rfl
@[simp] theorem leaveWaiting_work : (leaveWaiting h s).work = s.work := rfl

end

/-! ### dropWalkup -/

section
variable (t : Nat) (s : State)

@[simp] theorem dropWalkup_pending : (dropWalkup t s).pending = s.pending := rfl
@[simp] theorem dropWalkup_bays : (dropWalkup t s).bays = s.bays := rfl
@[simp] theorem dropWalkup_classes : (dropWalkup t s).classes = s.classes := rfl
@[simp] theorem dropWalkup_clock : (dropWalkup t s).clock = s.clock := rfl
@[simp] theorem dropWalkup_clockSet : (dropWalkup t s).clockSet = s.clockSet := rfl
@[simp] theorem dropWalkup_phase : (dropWalkup t s).phase = s.phase := rfl
@[simp] theorem dropWalkup_book : (dropWalkup t s).book = s.book := rfl
@[simp] theorem dropWalkup_gens : (dropWalkup t s).gens = s.gens := rfl
@[simp] theorem dropWalkup_waiting : (dropWalkup t s).waiting = s.waiting := rfl
@[simp] theorem dropWalkup_nextOrder : (dropWalkup t s).nextOrder = s.nextOrder := rfl
@[simp] theorem dropWalkup_policy : (dropWalkup t s).policy = s.policy := rfl
@[simp] theorem dropWalkup_active : (dropWalkup t s).active = s.active := rfl
@[simp] theorem dropWalkup_staged : (dropWalkup t s).staged = s.staged := rfl
@[simp] theorem dropWalkup_armed : (dropWalkup t s).armed = s.armed := rfl
@[simp] theorem dropWalkup_inForce : (dropWalkup t s).inForce = s.inForce := rfl
@[simp] theorem dropWalkup_energised : (dropWalkup t s).energised = s.energised := rfl
@[simp] theorem dropWalkup_queues : (dropWalkup t s).queues = s.queues := rfl
@[simp] theorem dropWalkup_settings : (dropWalkup t s).settings = s.settings := rfl
@[simp] theorem dropWalkup_bp : (dropWalkup t s).bp = s.bp := rfl
@[simp] theorem dropWalkup_sp : (dropWalkup t s).sp = s.sp := rfl
@[simp] theorem dropWalkup_switchDue : (dropWalkup t s).switchDue = s.switchDue := rfl
@[simp] theorem dropWalkup_unservedDue : (dropWalkup t s).unservedDue = s.unservedDue := rfl
@[simp] theorem dropWalkup_work : (dropWalkup t s).work = s.work := rfl

end

/-! ### setQueue -/

section
variable (br : Nat) (q : List QueueEntry) (s : State)

@[simp] theorem setQueue_pending : (setQueue br q s).pending = s.pending := rfl
@[simp] theorem setQueue_bays : (setQueue br q s).bays = s.bays := rfl
@[simp] theorem setQueue_classes : (setQueue br q s).classes = s.classes := rfl
@[simp] theorem setQueue_clock : (setQueue br q s).clock = s.clock := rfl
@[simp] theorem setQueue_clockSet : (setQueue br q s).clockSet = s.clockSet := rfl
@[simp] theorem setQueue_phase : (setQueue br q s).phase = s.phase := rfl
@[simp] theorem setQueue_book : (setQueue br q s).book = s.book := rfl
@[simp] theorem setQueue_gens : (setQueue br q s).gens = s.gens := rfl
@[simp] theorem setQueue_waiting : (setQueue br q s).waiting = s.waiting := rfl
@[simp] theorem setQueue_nextOrder : (setQueue br q s).nextOrder = s.nextOrder := rfl
@[simp] theorem setQueue_policy : (setQueue br q s).policy = s.policy := rfl
@[simp] theorem setQueue_walkups : (setQueue br q s).walkups = s.walkups := rfl
@[simp] theorem setQueue_active : (setQueue br q s).active = s.active := rfl
@[simp] theorem setQueue_staged : (setQueue br q s).staged = s.staged := rfl
@[simp] theorem setQueue_armed : (setQueue br q s).armed = s.armed := rfl
@[simp] theorem setQueue_inForce : (setQueue br q s).inForce = s.inForce := rfl
@[simp] theorem setQueue_energised : (setQueue br q s).energised = s.energised := rfl
@[simp] theorem setQueue_settings : (setQueue br q s).settings = s.settings := rfl
@[simp] theorem setQueue_bp : (setQueue br q s).bp = s.bp := rfl
@[simp] theorem setQueue_sp : (setQueue br q s).sp = s.sp := rfl
@[simp] theorem setQueue_switchDue : (setQueue br q s).switchDue = s.switchDue := rfl
@[simp] theorem setQueue_unservedDue : (setQueue br q s).unservedDue = s.unservedDue := rfl
@[simp] theorem setQueue_work : (setQueue br q s).work = s.work := rfl

end

/-! ### callRescan -/

section
variable (s : State)

@[simp] theorem callRescan_pending : (callRescan s).pending = s.pending := rfl
@[simp] theorem callRescan_bays : (callRescan s).bays = s.bays := rfl
@[simp] theorem callRescan_classes : (callRescan s).classes = s.classes := rfl
@[simp] theorem callRescan_clock : (callRescan s).clock = s.clock := rfl
@[simp] theorem callRescan_clockSet : (callRescan s).clockSet = s.clockSet := rfl
@[simp] theorem callRescan_phase : (callRescan s).phase = s.phase := rfl
@[simp] theorem callRescan_book : (callRescan s).book = s.book := rfl
@[simp] theorem callRescan_gens : (callRescan s).gens = s.gens := rfl
@[simp] theorem callRescan_waiting : (callRescan s).waiting = s.waiting := rfl
@[simp] theorem callRescan_nextOrder : (callRescan s).nextOrder = s.nextOrder := rfl
@[simp] theorem callRescan_policy : (callRescan s).policy = s.policy := rfl
@[simp] theorem callRescan_walkups : (callRescan s).walkups = s.walkups := rfl
@[simp] theorem callRescan_active : (callRescan s).active = s.active := rfl
@[simp] theorem callRescan_staged : (callRescan s).staged = s.staged := rfl
@[simp] theorem callRescan_armed : (callRescan s).armed = s.armed := rfl
@[simp] theorem callRescan_inForce : (callRescan s).inForce = s.inForce := rfl
@[simp] theorem callRescan_energised : (callRescan s).energised = s.energised := rfl
@[simp] theorem callRescan_queues : (callRescan s).queues = s.queues := rfl
@[simp] theorem callRescan_settings : (callRescan s).settings = s.settings := rfl
@[simp] theorem callRescan_bp : (callRescan s).bp = s.bp := rfl
@[simp] theorem callRescan_sp : (callRescan s).sp = s.sp := rfl
@[simp] theorem callRescan_switchDue : (callRescan s).switchDue = s.switchDue := rfl
@[simp] theorem callRescan_unservedDue : (callRescan s).unservedDue = s.unservedDue := rfl

end

/-! ### callRelease -/

section
variable (b : Nat) (s : State)

@[simp] theorem callRelease_pending : (callRelease b s).pending = s.pending := rfl
@[simp] theorem callRelease_bays : (callRelease b s).bays = s.bays := rfl
@[simp] theorem callRelease_classes : (callRelease b s).classes = s.classes := rfl
@[simp] theorem callRelease_clock : (callRelease b s).clock = s.clock := rfl
@[simp] theorem callRelease_clockSet : (callRelease b s).clockSet = s.clockSet := rfl
@[simp] theorem callRelease_phase : (callRelease b s).phase = s.phase := rfl
@[simp] theorem callRelease_book : (callRelease b s).book = s.book := rfl
@[simp] theorem callRelease_gens : (callRelease b s).gens = s.gens := rfl
@[simp] theorem callRelease_waiting : (callRelease b s).waiting = s.waiting := rfl
@[simp] theorem callRelease_nextOrder : (callRelease b s).nextOrder = s.nextOrder := rfl
@[simp] theorem callRelease_policy : (callRelease b s).policy = s.policy := rfl
@[simp] theorem callRelease_walkups : (callRelease b s).walkups = s.walkups := rfl
@[simp] theorem callRelease_active : (callRelease b s).active = s.active := rfl
@[simp] theorem callRelease_staged : (callRelease b s).staged = s.staged := rfl
@[simp] theorem callRelease_armed : (callRelease b s).armed = s.armed := rfl
@[simp] theorem callRelease_inForce : (callRelease b s).inForce = s.inForce := rfl
@[simp] theorem callRelease_energised : (callRelease b s).energised = s.energised := rfl
@[simp] theorem callRelease_queues : (callRelease b s).queues = s.queues := rfl
@[simp] theorem callRelease_settings : (callRelease b s).settings = s.settings := rfl
@[simp] theorem callRelease_bp : (callRelease b s).bp = s.bp := rfl
@[simp] theorem callRelease_sp : (callRelease b s).sp = s.sp := rfl
@[simp] theorem callRelease_switchDue : (callRelease b s).switchDue = s.switchDue := rfl
@[simp] theorem callRelease_unservedDue : (callRelease b s).unservedDue = s.unservedDue := rfl

end

/-! ### notify -/

section
variable (n : NoticeBody) (s : State)

@[simp] theorem notify_pending : (notify n s).pending = s.pending := rfl
@[simp] theorem notify_bays : (notify n s).bays = s.bays := rfl
@[simp] theorem notify_classes : (notify n s).classes = s.classes := rfl
@[simp] theorem notify_clock : (notify n s).clock = s.clock := rfl
@[simp] theorem notify_clockSet : (notify n s).clockSet = s.clockSet := rfl
@[simp] theorem notify_phase : (notify n s).phase = s.phase := rfl
@[simp] theorem notify_book : (notify n s).book = s.book := rfl
@[simp] theorem notify_gens : (notify n s).gens = s.gens := rfl
@[simp] theorem notify_waiting : (notify n s).waiting = s.waiting := rfl
@[simp] theorem notify_nextOrder : (notify n s).nextOrder = s.nextOrder := rfl
@[simp] theorem notify_policy : (notify n s).policy = s.policy := rfl
@[simp] theorem notify_walkups : (notify n s).walkups = s.walkups := rfl
@[simp] theorem notify_active : (notify n s).active = s.active := rfl
@[simp] theorem notify_staged : (notify n s).staged = s.staged := rfl
@[simp] theorem notify_armed : (notify n s).armed = s.armed := rfl
@[simp] theorem notify_inForce : (notify n s).inForce = s.inForce := rfl
@[simp] theorem notify_energised : (notify n s).energised = s.energised := rfl
@[simp] theorem notify_queues : (notify n s).queues = s.queues := rfl
@[simp] theorem notify_settings : (notify n s).settings = s.settings := rfl
@[simp] theorem notify_bp : (notify n s).bp = s.bp := rfl
@[simp] theorem notify_switchDue : (notify n s).switchDue = s.switchDue := rfl
@[simp] theorem notify_unservedDue : (notify n s).unservedDue = s.unservedDue := rfl
@[simp] theorem notify_work : (notify n s).work = s.work := rfl
@[simp] theorem notify_sp_link : (notify n s).sp.link = s.sp.link := rfl
@[simp] theorem notify_sp_rxq : (notify n s).sp.rxq = s.sp.rxq := rfl
@[simp] theorem notify_sp_slots : (notify n s).sp.slots = s.sp.slots := rfl
@[simp] theorem notify_sp_nextFill : (notify n s).sp.nextFill = s.sp.nextFill := rfl
@[simp] theorem notify_sp_replies : (notify n s).sp.replies = s.sp.replies := rfl
@[simp] theorem notify_sp_resetPending : (notify n s).sp.resetPending = s.sp.resetPending := rfl

end

/-! ### addReply -/

section
variable (d t k : Nat) (r : Result) (o : ReplyBody) (s : State)

@[simp] theorem addReply_pending : (addReply d t k r o s).pending = s.pending := rfl
@[simp] theorem addReply_bays : (addReply d t k r o s).bays = s.bays := rfl
@[simp] theorem addReply_classes : (addReply d t k r o s).classes = s.classes := rfl
@[simp] theorem addReply_clock : (addReply d t k r o s).clock = s.clock := rfl
@[simp] theorem addReply_clockSet : (addReply d t k r o s).clockSet = s.clockSet := rfl
@[simp] theorem addReply_phase : (addReply d t k r o s).phase = s.phase := rfl
@[simp] theorem addReply_book : (addReply d t k r o s).book = s.book := rfl
@[simp] theorem addReply_gens : (addReply d t k r o s).gens = s.gens := rfl
@[simp] theorem addReply_waiting : (addReply d t k r o s).waiting = s.waiting := rfl
@[simp] theorem addReply_nextOrder : (addReply d t k r o s).nextOrder = s.nextOrder := rfl
@[simp] theorem addReply_policy : (addReply d t k r o s).policy = s.policy := rfl
@[simp] theorem addReply_walkups : (addReply d t k r o s).walkups = s.walkups := rfl
@[simp] theorem addReply_active : (addReply d t k r o s).active = s.active := rfl
@[simp] theorem addReply_staged : (addReply d t k r o s).staged = s.staged := rfl
@[simp] theorem addReply_armed : (addReply d t k r o s).armed = s.armed := rfl
@[simp] theorem addReply_inForce : (addReply d t k r o s).inForce = s.inForce := rfl
@[simp] theorem addReply_energised : (addReply d t k r o s).energised = s.energised := rfl
@[simp] theorem addReply_queues : (addReply d t k r o s).queues = s.queues := rfl
@[simp] theorem addReply_settings : (addReply d t k r o s).settings = s.settings := rfl
@[simp] theorem addReply_bp : (addReply d t k r o s).bp = s.bp := rfl
@[simp] theorem addReply_switchDue : (addReply d t k r o s).switchDue = s.switchDue := rfl
@[simp] theorem addReply_unservedDue : (addReply d t k r o s).unservedDue = s.unservedDue := rfl
@[simp] theorem addReply_work : (addReply d t k r o s).work = s.work := rfl
@[simp] theorem addReply_sp_link : (addReply d t k r o s).sp.link = s.sp.link := rfl
@[simp] theorem addReply_sp_rxq : (addReply d t k r o s).sp.rxq = s.sp.rxq := rfl
@[simp] theorem addReply_sp_slots : (addReply d t k r o s).sp.slots = s.sp.slots := rfl
@[simp] theorem addReply_sp_nextFill : (addReply d t k r o s).sp.nextFill = s.sp.nextFill := rfl
@[simp] theorem addReply_sp_notices : (addReply d t k r o s).sp.notices = s.sp.notices := rfl
@[simp] theorem addReply_sp_gapPending : (addReply d t k r o s).sp.gapPending = s.sp.gapPending := rfl
@[simp] theorem addReply_sp_resetPending : (addReply d t k r o s).sp.resetPending = s.sp.resetPending := rfl

end

/-! ### setReplies -/

section
variable (rs : List Reply) (s : State)

@[simp] theorem setReplies_pending : (setReplies rs s).pending = s.pending := rfl
@[simp] theorem setReplies_bays : (setReplies rs s).bays = s.bays := rfl
@[simp] theorem setReplies_classes : (setReplies rs s).classes = s.classes := rfl
@[simp] theorem setReplies_clock : (setReplies rs s).clock = s.clock := rfl
@[simp] theorem setReplies_clockSet : (setReplies rs s).clockSet = s.clockSet := rfl
@[simp] theorem setReplies_phase : (setReplies rs s).phase = s.phase := rfl
@[simp] theorem setReplies_book : (setReplies rs s).book = s.book := rfl
@[simp] theorem setReplies_gens : (setReplies rs s).gens = s.gens := rfl
@[simp] theorem setReplies_waiting : (setReplies rs s).waiting = s.waiting := rfl
@[simp] theorem setReplies_nextOrder : (setReplies rs s).nextOrder = s.nextOrder := rfl
@[simp] theorem setReplies_policy : (setReplies rs s).policy = s.policy := rfl
@[simp] theorem setReplies_walkups : (setReplies rs s).walkups = s.walkups := rfl
@[simp] theorem setReplies_active : (setReplies rs s).active = s.active := rfl
@[simp] theorem setReplies_staged : (setReplies rs s).staged = s.staged := rfl
@[simp] theorem setReplies_armed : (setReplies rs s).armed = s.armed := rfl
@[simp] theorem setReplies_inForce : (setReplies rs s).inForce = s.inForce := rfl
@[simp] theorem setReplies_energised : (setReplies rs s).energised = s.energised := rfl
@[simp] theorem setReplies_queues : (setReplies rs s).queues = s.queues := rfl
@[simp] theorem setReplies_settings : (setReplies rs s).settings = s.settings := rfl
@[simp] theorem setReplies_bp : (setReplies rs s).bp = s.bp := rfl
@[simp] theorem setReplies_switchDue : (setReplies rs s).switchDue = s.switchDue := rfl
@[simp] theorem setReplies_unservedDue : (setReplies rs s).unservedDue = s.unservedDue := rfl
@[simp] theorem setReplies_work : (setReplies rs s).work = s.work := rfl
@[simp] theorem setReplies_sp_link : (setReplies rs s).sp.link = s.sp.link := rfl
@[simp] theorem setReplies_sp_rxq : (setReplies rs s).sp.rxq = s.sp.rxq := rfl
@[simp] theorem setReplies_sp_slots : (setReplies rs s).sp.slots = s.sp.slots := rfl
@[simp] theorem setReplies_sp_nextFill : (setReplies rs s).sp.nextFill = s.sp.nextFill := rfl
@[simp] theorem setReplies_sp_notices : (setReplies rs s).sp.notices = s.sp.notices := rfl
@[simp] theorem setReplies_sp_gapPending : (setReplies rs s).sp.gapPending = s.sp.gapPending := rfl
@[simp] theorem setReplies_sp_resetPending : (setReplies rs s).sp.resetPending = s.sp.resetPending := rfl
@[simp] theorem setReplies_sp_nextId : (setReplies rs s).sp.nextId = s.sp.nextId := rfl

end

/-! ### setNotices -/

section
variable (ns : List Notice) (s : State)

@[simp] theorem setNotices_pending : (setNotices ns s).pending = s.pending := rfl
@[simp] theorem setNotices_bays : (setNotices ns s).bays = s.bays := rfl
@[simp] theorem setNotices_classes : (setNotices ns s).classes = s.classes := rfl
@[simp] theorem setNotices_clock : (setNotices ns s).clock = s.clock := rfl
@[simp] theorem setNotices_clockSet : (setNotices ns s).clockSet = s.clockSet := rfl
@[simp] theorem setNotices_phase : (setNotices ns s).phase = s.phase := rfl
@[simp] theorem setNotices_book : (setNotices ns s).book = s.book := rfl
@[simp] theorem setNotices_gens : (setNotices ns s).gens = s.gens := rfl
@[simp] theorem setNotices_waiting : (setNotices ns s).waiting = s.waiting := rfl
@[simp] theorem setNotices_nextOrder : (setNotices ns s).nextOrder = s.nextOrder := rfl
@[simp] theorem setNotices_policy : (setNotices ns s).policy = s.policy := rfl
@[simp] theorem setNotices_walkups : (setNotices ns s).walkups = s.walkups := rfl
@[simp] theorem setNotices_active : (setNotices ns s).active = s.active := rfl
@[simp] theorem setNotices_staged : (setNotices ns s).staged = s.staged := rfl
@[simp] theorem setNotices_armed : (setNotices ns s).armed = s.armed := rfl
@[simp] theorem setNotices_inForce : (setNotices ns s).inForce = s.inForce := rfl
@[simp] theorem setNotices_energised : (setNotices ns s).energised = s.energised := rfl
@[simp] theorem setNotices_queues : (setNotices ns s).queues = s.queues := rfl
@[simp] theorem setNotices_settings : (setNotices ns s).settings = s.settings := rfl
@[simp] theorem setNotices_bp : (setNotices ns s).bp = s.bp := rfl
@[simp] theorem setNotices_switchDue : (setNotices ns s).switchDue = s.switchDue := rfl
@[simp] theorem setNotices_unservedDue : (setNotices ns s).unservedDue = s.unservedDue := rfl
@[simp] theorem setNotices_work : (setNotices ns s).work = s.work := rfl
@[simp] theorem setNotices_sp_link : (setNotices ns s).sp.link = s.sp.link := rfl
@[simp] theorem setNotices_sp_rxq : (setNotices ns s).sp.rxq = s.sp.rxq := rfl
@[simp] theorem setNotices_sp_slots : (setNotices ns s).sp.slots = s.sp.slots := rfl
@[simp] theorem setNotices_sp_nextFill : (setNotices ns s).sp.nextFill = s.sp.nextFill := rfl
@[simp] theorem setNotices_sp_replies : (setNotices ns s).sp.replies = s.sp.replies := rfl
@[simp] theorem setNotices_sp_gapPending : (setNotices ns s).sp.gapPending = s.sp.gapPending := rfl
@[simp] theorem setNotices_sp_resetPending : (setNotices ns s).sp.resetPending = s.sp.resetPending := rfl
@[simp] theorem setNotices_sp_nextId : (setNotices ns s).sp.nextId = s.sp.nextId := rfl

end

/-! ### State.setSSlot -/

section
variable (s : State) (i : Nat) (x : SSlot)

@[simp] theorem State.setSSlot_pending : (s.setSSlot i x).pending = s.pending := rfl
@[simp] theorem State.setSSlot_bays : (s.setSSlot i x).bays = s.bays := rfl
@[simp] theorem State.setSSlot_classes : (s.setSSlot i x).classes = s.classes := rfl
@[simp] theorem State.setSSlot_clock : (s.setSSlot i x).clock = s.clock := rfl
@[simp] theorem State.setSSlot_clockSet : (s.setSSlot i x).clockSet = s.clockSet := rfl
@[simp] theorem State.setSSlot_phase : (s.setSSlot i x).phase = s.phase := rfl
@[simp] theorem State.setSSlot_book : (s.setSSlot i x).book = s.book := rfl
@[simp] theorem State.setSSlot_gens : (s.setSSlot i x).gens = s.gens := rfl
@[simp] theorem State.setSSlot_waiting : (s.setSSlot i x).waiting = s.waiting := rfl
@[simp] theorem State.setSSlot_nextOrder : (s.setSSlot i x).nextOrder = s.nextOrder := rfl
@[simp] theorem State.setSSlot_policy : (s.setSSlot i x).policy = s.policy := rfl
@[simp] theorem State.setSSlot_walkups : (s.setSSlot i x).walkups = s.walkups := rfl
@[simp] theorem State.setSSlot_active : (s.setSSlot i x).active = s.active := rfl
@[simp] theorem State.setSSlot_staged : (s.setSSlot i x).staged = s.staged := rfl
@[simp] theorem State.setSSlot_armed : (s.setSSlot i x).armed = s.armed := rfl
@[simp] theorem State.setSSlot_inForce : (s.setSSlot i x).inForce = s.inForce := rfl
@[simp] theorem State.setSSlot_energised : (s.setSSlot i x).energised = s.energised := rfl
@[simp] theorem State.setSSlot_queues : (s.setSSlot i x).queues = s.queues := rfl
@[simp] theorem State.setSSlot_settings : (s.setSSlot i x).settings = s.settings := rfl
@[simp] theorem State.setSSlot_bp : (s.setSSlot i x).bp = s.bp := rfl
@[simp] theorem State.setSSlot_switchDue : (s.setSSlot i x).switchDue = s.switchDue := rfl
@[simp] theorem State.setSSlot_unservedDue : (s.setSSlot i x).unservedDue = s.unservedDue := rfl
@[simp] theorem State.setSSlot_work : (s.setSSlot i x).work = s.work := rfl
@[simp] theorem State.setSSlot_sp_link : (s.setSSlot i x).sp.link = s.sp.link := rfl
@[simp] theorem State.setSSlot_sp_rxq : (s.setSSlot i x).sp.rxq = s.sp.rxq := rfl
@[simp] theorem State.setSSlot_sp_nextFill : (s.setSSlot i x).sp.nextFill = s.sp.nextFill := rfl
@[simp] theorem State.setSSlot_sp_replies : (s.setSSlot i x).sp.replies = s.sp.replies := rfl
@[simp] theorem State.setSSlot_sp_notices : (s.setSSlot i x).sp.notices = s.sp.notices := rfl
@[simp] theorem State.setSSlot_sp_gapPending : (s.setSSlot i x).sp.gapPending = s.sp.gapPending := rfl
@[simp] theorem State.setSSlot_sp_resetPending : (s.setSSlot i x).sp.resetPending = s.sp.resetPending := rfl
@[simp] theorem State.setSSlot_sp_nextId : (s.setSSlot i x).sp.nextId = s.sp.nextId := rfl

end

/-! ### popS -/

section
variable (s : State)

@[simp] theorem popS_pending : (popS s).pending = s.pending := rfl
@[simp] theorem popS_bays : (popS s).bays = s.bays := rfl
@[simp] theorem popS_classes : (popS s).classes = s.classes := rfl
@[simp] theorem popS_clock : (popS s).clock = s.clock := rfl
@[simp] theorem popS_clockSet : (popS s).clockSet = s.clockSet := rfl
@[simp] theorem popS_phase : (popS s).phase = s.phase := rfl
@[simp] theorem popS_book : (popS s).book = s.book := rfl
@[simp] theorem popS_gens : (popS s).gens = s.gens := rfl
@[simp] theorem popS_waiting : (popS s).waiting = s.waiting := rfl
@[simp] theorem popS_nextOrder : (popS s).nextOrder = s.nextOrder := rfl
@[simp] theorem popS_policy : (popS s).policy = s.policy := rfl
@[simp] theorem popS_walkups : (popS s).walkups = s.walkups := rfl
@[simp] theorem popS_active : (popS s).active = s.active := rfl
@[simp] theorem popS_staged : (popS s).staged = s.staged := rfl
@[simp] theorem popS_armed : (popS s).armed = s.armed := rfl
@[simp] theorem popS_inForce : (popS s).inForce = s.inForce := rfl
@[simp] theorem popS_energised : (popS s).energised = s.energised := rfl
@[simp] theorem popS_queues : (popS s).queues = s.queues := rfl
@[simp] theorem popS_settings : (popS s).settings = s.settings := rfl
@[simp] theorem popS_bp : (popS s).bp = s.bp := rfl
@[simp] theorem popS_switchDue : (popS s).switchDue = s.switchDue := rfl
@[simp] theorem popS_unservedDue : (popS s).unservedDue = s.unservedDue := rfl
@[simp] theorem popS_work : (popS s).work = s.work := rfl
@[simp] theorem popS_sp_link : (popS s).sp.link = s.sp.link := rfl
@[simp] theorem popS_sp_slots : (popS s).sp.slots = s.sp.slots := rfl
@[simp] theorem popS_sp_nextFill : (popS s).sp.nextFill = s.sp.nextFill := rfl
@[simp] theorem popS_sp_replies : (popS s).sp.replies = s.sp.replies := rfl
@[simp] theorem popS_sp_notices : (popS s).sp.notices = s.sp.notices := rfl
@[simp] theorem popS_sp_gapPending : (popS s).sp.gapPending = s.sp.gapPending := rfl
@[simp] theorem popS_sp_resetPending : (popS s).sp.resetPending = s.sp.resetPending := rfl
@[simp] theorem popS_sp_nextId : (popS s).sp.nextId = s.sp.nextId := rfl

end

/-! ### State.setBSlot -/

section
variable (s : State) (i : Nat) (x : BSlot)

@[simp] theorem State.setBSlot_pending : (s.setBSlot i x).pending = s.pending := rfl
@[simp] theorem State.setBSlot_bays : (s.setBSlot i x).bays = s.bays := rfl
@[simp] theorem State.setBSlot_classes : (s.setBSlot i x).classes = s.classes := rfl
@[simp] theorem State.setBSlot_clock : (s.setBSlot i x).clock = s.clock := rfl
@[simp] theorem State.setBSlot_clockSet : (s.setBSlot i x).clockSet = s.clockSet := rfl
@[simp] theorem State.setBSlot_phase : (s.setBSlot i x).phase = s.phase := rfl
@[simp] theorem State.setBSlot_book : (s.setBSlot i x).book = s.book := rfl
@[simp] theorem State.setBSlot_gens : (s.setBSlot i x).gens = s.gens := rfl
@[simp] theorem State.setBSlot_waiting : (s.setBSlot i x).waiting = s.waiting := rfl
@[simp] theorem State.setBSlot_nextOrder : (s.setBSlot i x).nextOrder = s.nextOrder := rfl
@[simp] theorem State.setBSlot_policy : (s.setBSlot i x).policy = s.policy := rfl
@[simp] theorem State.setBSlot_walkups : (s.setBSlot i x).walkups = s.walkups := rfl
@[simp] theorem State.setBSlot_active : (s.setBSlot i x).active = s.active := rfl
@[simp] theorem State.setBSlot_staged : (s.setBSlot i x).staged = s.staged := rfl
@[simp] theorem State.setBSlot_armed : (s.setBSlot i x).armed = s.armed := rfl
@[simp] theorem State.setBSlot_inForce : (s.setBSlot i x).inForce = s.inForce := rfl
@[simp] theorem State.setBSlot_energised : (s.setBSlot i x).energised = s.energised := rfl
@[simp] theorem State.setBSlot_queues : (s.setBSlot i x).queues = s.queues := rfl
@[simp] theorem State.setBSlot_settings : (s.setBSlot i x).settings = s.settings := rfl
@[simp] theorem State.setBSlot_sp : (s.setBSlot i x).sp = s.sp := rfl
@[simp] theorem State.setBSlot_switchDue : (s.setBSlot i x).switchDue = s.switchDue := rfl
@[simp] theorem State.setBSlot_unservedDue : (s.setBSlot i x).unservedDue = s.unservedDue := rfl
@[simp] theorem State.setBSlot_work : (s.setBSlot i x).work = s.work := rfl
@[simp] theorem State.setBSlot_bp_link : (s.setBSlot i x).bp.link = s.bp.link := rfl
@[simp] theorem State.setBSlot_bp_rxq : (s.setBSlot i x).bp.rxq = s.bp.rxq := rfl
@[simp] theorem State.setBSlot_bp_nextFill : (s.setBSlot i x).bp.nextFill = s.bp.nextFill := rfl
@[simp] theorem State.setBSlot_bp_relay : (s.setBSlot i x).bp.relay = s.bp.relay := rfl
@[simp] theorem State.setBSlot_bp_powerPtr : (s.setBSlot i x).bp.powerPtr = s.bp.powerPtr := rfl
@[simp] theorem State.setBSlot_bp_accessPtr : (s.setBSlot i x).bp.accessPtr = s.bp.accessPtr := rfl
@[simp] theorem State.setBSlot_bp_lampPtr : (s.setBSlot i x).bp.lampPtr = s.bp.lampPtr := rfl
@[simp] theorem State.setBSlot_bp_queryPtr : (s.setBSlot i x).bp.queryPtr = s.bp.queryPtr := rfl
@[simp] theorem State.setBSlot_bp_outage : (s.setBSlot i x).bp.outage = s.bp.outage := rfl

end

/-! ### popB -/

section
variable (s : State)

@[simp] theorem popB_pending : (popB s).pending = s.pending := rfl
@[simp] theorem popB_bays : (popB s).bays = s.bays := rfl
@[simp] theorem popB_classes : (popB s).classes = s.classes := rfl
@[simp] theorem popB_clock : (popB s).clock = s.clock := rfl
@[simp] theorem popB_clockSet : (popB s).clockSet = s.clockSet := rfl
@[simp] theorem popB_phase : (popB s).phase = s.phase := rfl
@[simp] theorem popB_book : (popB s).book = s.book := rfl
@[simp] theorem popB_gens : (popB s).gens = s.gens := rfl
@[simp] theorem popB_waiting : (popB s).waiting = s.waiting := rfl
@[simp] theorem popB_nextOrder : (popB s).nextOrder = s.nextOrder := rfl
@[simp] theorem popB_policy : (popB s).policy = s.policy := rfl
@[simp] theorem popB_walkups : (popB s).walkups = s.walkups := rfl
@[simp] theorem popB_active : (popB s).active = s.active := rfl
@[simp] theorem popB_staged : (popB s).staged = s.staged := rfl
@[simp] theorem popB_armed : (popB s).armed = s.armed := rfl
@[simp] theorem popB_inForce : (popB s).inForce = s.inForce := rfl
@[simp] theorem popB_energised : (popB s).energised = s.energised := rfl
@[simp] theorem popB_queues : (popB s).queues = s.queues := rfl
@[simp] theorem popB_settings : (popB s).settings = s.settings := rfl
@[simp] theorem popB_sp : (popB s).sp = s.sp := rfl
@[simp] theorem popB_switchDue : (popB s).switchDue = s.switchDue := rfl
@[simp] theorem popB_unservedDue : (popB s).unservedDue = s.unservedDue := rfl
@[simp] theorem popB_work : (popB s).work = s.work := rfl
@[simp] theorem popB_bp_link : (popB s).bp.link = s.bp.link := rfl
@[simp] theorem popB_bp_slots : (popB s).bp.slots = s.bp.slots := rfl
@[simp] theorem popB_bp_nextFill : (popB s).bp.nextFill = s.bp.nextFill := rfl
@[simp] theorem popB_bp_relay : (popB s).bp.relay = s.bp.relay := rfl
@[simp] theorem popB_bp_powerPtr : (popB s).bp.powerPtr = s.bp.powerPtr := rfl
@[simp] theorem popB_bp_accessPtr : (popB s).bp.accessPtr = s.bp.accessPtr := rfl
@[simp] theorem popB_bp_lampPtr : (popB s).bp.lampPtr = s.bp.lampPtr := rfl
@[simp] theorem popB_bp_queryPtr : (popB s).bp.queryPtr = s.bp.queryPtr := rfl
@[simp] theorem popB_bp_outage : (popB s).bp.outage = s.bp.outage := rfl

end

end Sys2Proof.Machine
end

