-- ==== Sys2Proof/Laws/Bays.lean ====
section
/-! SUPPORT. Reading a bay record back after the table has been written, and what owing a frame does to the bay records: the
mark of the family owed, and nothing but marks of that family elsewhere. -/

namespace Sys2Proof.Machine

/-! ### Reading a bay after a write -/

theorem State.bay_setBay_self (s : State) (b : Nat) (x : Bay) (h : b < Config.bays) : (s.setBay b x).bay b = x := by
  simp [State.bay, State.setBay, h]

theorem State.bay_setBay_of_ne (s : State) (b c : Nat) (x : Bay) (h : c ≠ b) : (s.setBay b x).bay c = s.bay c := by
  simp [State.bay, State.setBay, Ne.symm h]

theorem State.setBay_of_ge (s : State) (b : Nat) (x : Bay) (h : Config.bays ≤ b) : s.setBay b x = s := by
  unfold State.setBay
  rw [Vector.setIfInBounds_eq_of_size_le h]

theorem State.bay_of_ge (s : State) (b : Nat) (h : Config.bays ≤ b) : s.bay b = Bay.blank := by
  simp [State.bay, h]

@[simp] theorem State.bay_modBay_self (s : State) (b : Nat) (f : Bay → Bay) (h : b < Config.bays) :
    (s.modBay b f).bay b = f (s.bay b) := s.bay_setBay_self b _ h

@[simp] theorem State.bay_modBay_of_ne (s : State) (b c : Nat) (f : Bay → Bay) (h : c ≠ b) :
    (s.modBay b f).bay c = s.bay c := s.bay_setBay_of_ne b c _ h

/-- A field that a write of bay `b` does not change reads as before at every bay. -/
theorem State.bay_modBay_proj {α : Type} (p : Bay → α) (s : State) (b c : Nat) (f : Bay → Bay)
    (h : ∀ x, p (f x) = p x) : p ((s.modBay b f).bay c) = p (s.bay c) := by
  by_cases hb : b < Config.bays
  · by_cases hc : c = b
    · subst hc; simp [hb, h]
    · simp [hc]
  · unfold State.modBay
    rw [s.setBay_of_ge b _ (Nat.le_of_not_lt hb)]

theorem State.bay_eq_of_bays_eq {s t : State} (h : t.bays = s.bays) (b : Nat) : t.bay b = s.bay b := by
  simp [State.bay, h]

/-! ### Updates that leave the bay table alone -/

section
variable (s : State) (c : Nat)

@[simp] theorem bay_modRec (h : Nat) (f : Reservation → Reservation) : (s.modRec h f).bay c = s.bay c := rfl
@[simp] theorem bay_insertRecord (r : Reservation) : (insertRecord r s).bay c = s.bay c := rfl
@[simp] theorem bay_rebind (b : Nat) : (rebind b s).bay c = s.bay c := rfl
@[simp] theorem bay_addRecord (r : Reservation) : (addRecord r s).bay c = s.bay c := rfl
@[simp] theorem bay_joinWaiting (r : Reservation) : (joinWaiting r s).bay c = s.bay c := rfl
@[simp] theorem bay_leaveWaiting (h : Nat) : (leaveWaiting h s).bay c = s.bay c := rfl
@[simp] theorem bay_dropWalkup (t : Nat) : (dropWalkup t s).bay c = s.bay c := rfl
@[simp] theorem bay_setQueue (br : Nat) (q : List QueueEntry) : (setQueue br q s).bay c = s.bay c := rfl
@[simp] theorem bay_callRescan : (callRescan s).bay c = s.bay c := rfl
@[simp] theorem bay_callRelease (b : Nat) : (callRelease b s).bay c = s.bay c := rfl
@[simp] theorem bay_notify (n : NoticeBody) : (notify n s).bay c = s.bay c := rfl
@[simp] theorem bay_addReply (d t k : Nat) (r : Result) (o : ReplyBody) : (addReply d t k r o s).bay c = s.bay c := rfl
@[simp] theorem bay_setBSlot (i : Nat) (x : BSlot) : (s.setBSlot i x).bay c = s.bay c := rfl
@[simp] theorem bay_setSSlot (i : Nat) (x : SSlot) : (s.setSSlot i x).bay c = s.bay c := rfl
@[simp] theorem bay_popS : (popS s).bay c = s.bay c := rfl
@[simp] theorem bay_popB : (popB s).bay c = s.bay c := rfl

@[simp] theorem bay_closeRecord (h : Nat) (r : CloseReason) : (closeRecord h r s).bay c = s.bay c := by
  unfold closeRecord
  split
  · rfl
  · split <;> rfl

end

/-! ### The bay timer -/

@[simp] theorem bay_setTimer_self (b : Nat) (t : Timer) (s : State) (h : b < Config.bays) :
    (setTimer b t s).bay b = { s.bay b with timer := t } := s.bay_modBay_self b _ h

@[simp] theorem bay_setTimer_of_ne (b c : Nat) (t : Timer) (s : State) (h : c ≠ b) :
    (setTimer b t s).bay c = s.bay c := s.bay_modBay_of_ne b c _ h

/-- Arming a purpose: the timer that R32 and R36 give, and the expiry at once when the deadline is at or before now. -/
theorem armTimer_eq (b : Nat) (p : Purpose) (d : Tick) (s : State) :
    armTimer b p d s =
      if 0 < diff d s.clock then setTimer b (s.armed? p d) s
      else { setTimer b (.running d p) s with work := { s.work with due := s.work.due ++ [b] } } := by
  unfold armTimer State.armed?
  by_cases h : 0 < diff d s.clock
  · have h1 : (1 ≤ diff d s.clock) := h
    have h2 : ¬ diff d s.clock ≤ 0 := by omega
    by_cases hp : p.freezes && s.portDown <;> simp [h, h1, h2, hp]
  · have h1 : ¬ (1 ≤ diff d s.clock) := by omega
    have h2 : diff d s.clock ≤ 0 := by omega
    simp [h, h1, h2]

/-- An arming that is not due writes the timer alone. -/
theorem armTimer_ahead (b : Nat) (p : Purpose) (d : Tick) (s : State) (h : 0 < diff d s.clock) :
    armTimer b p d s = setTimer b (s.armed? p d) s := by
  rw [armTimer_eq, if_pos h]

theorem bay_armTimer_self (b : Nat) (p : Purpose) (d : Tick) (s : State) (h : b < Config.bays) :
    (armTimer b p d s).bay b = { s.bay b with timer := s.armed? p d } := by
  rw [armTimer_eq]
  split
  · simp [h]
  · rename_i hd
    have : ¬ (1 ≤ diff d s.clock) := by omega
    show (setTimer b (.running d p) s).bay b = _
    rw [bay_setTimer_self b _ s h]
    simp [State.armed?, this]

@[simp] theorem bay_armTimer_of_ne (b c : Nat) (p : Purpose) (d : Tick) (s : State) (h : c ≠ b) :
    (armTimer b p d s).bay c = s.bay c := by
  rw [armTimer_eq]
  split
  · exact bay_setTimer_of_ne b c _ s h
  · exact bay_setTimer_of_ne b c _ s h

/-! ### Owing a frame -/

/-- A slot that is emptied changes at most the marks of its own family (R170). -/
theorem bay_returnToOwed_proj {α : Type} (p : Bay → α) (o : FillOrigin) (s : State) (c : Nat)
    (h : ∀ x, (∀ m, p { x with power := m } = p x) ∧ (∀ m, p { x with access := m } = p x)
      ∧ (∀ m, p { x with lamp := m } = p x) ∧ (∀ m, p { x with query := m } = p x)) :
    p ((returnToOwed o s).bay c) = p (s.bay c) := by
  cases o with
  | power b m => exact s.bay_modBay_proj p b c _ fun x => (h x).1 _
  | access b r => exact s.bay_modBay_proj p b c _ fun x => (h x).2.1 _
  | lamp b => exact s.bay_modBay_proj p b c _ fun x => (h x).2.2.1 _
  | query b => exact s.bay_modBay_proj p b c _ fun x => (h x).2.2.2 _
  | relay => rfl

/-- An invariant of the state that emptying one slot and rewriting one slot keep is kept when the slots of a bay and family
meet a newly set mark (R171). -/
theorem supersede_induct (P : State → Prop) (fam : Family) (b : Nat) (s : State) (h0 : P s)
    (hs : ∀ s i f o, f.origin.isFor fam b = true → P s → P (emptySlot i f o s))
    (hm : ∀ s i x, P s → P (s.setBSlot i x)) : P (supersede fam b s) := by
  unfold supersede
  induction bSlotNumbers generalizing s with
  | nil => exact h0
  | cons i is ih =>
    rw [List.foldl_cons]
    refine ih _ ?_
    unfold supersedeSlot
    split
    · split
      · exact hs s i _ .aborted ‹_› h0
      · exact h0
    · split
      · exact hm s i _ h0
      · exact h0
    · exact h0

/-! The four owings as the slots' part followed by one write. -/

theorem owePower_eq (b : Nat) (m : PowerMark) (s : State) : owePower b m s =
    (supersede .power b s).modBay b fun x =>
      { x with power := some (match x.power with | none => m | some o => mergePower o m) } := rfl

theorem oweAccess_eq (b : Nat) (r : AccessReason) (s : State) : oweAccess b r s =
    (supersede .access b s).modBay b fun x => { x with access := some r } := rfl

theorem oweLamp_eq (b : Nat) (s : State) : oweLamp b s =
    (supersede .lamp b s).modBay b fun x => { x with lamp := true } := rfl

theorem oweQuery_eq (b : Nat) (s : State) : oweQuery b s =
    (supersede .query b s).modBay b fun x => { x with query := true } := rfl

/-- A newly set LAMP mark's work on the slots leaves everything of every bay but its LAMP mark. -/
theorem sansLamp_supersede (b c : Nat) (s : State) :
    ((supersede .lamp b s).bay c).sansLamp = (s.bay c).sansLamp := by
  refine supersede_induct (fun t => (t.bay c).sansLamp = (s.bay c).sansLamp) .lamp b s rfl ?_ fun _ _ _ h => h
  intro t i f o hf ht
  rw [← ht]
  unfold emptySlot returnToOwed
  cases ho : f.origin with
  | lamp x => exact State.bay_modBay_proj Bay.sansLamp (t.setBSlot i (.empty o)) x c _ fun _ => rfl
  | power x m => simp [FillOrigin.isFor, ho] at hf
  | access x r => simp [FillOrigin.isFor, ho] at hf
  | query x => simp [FillOrigin.isFor, ho] at hf
  | relay => simp [FillOrigin.isFor, ho] at hf

theorem sansMarks_supersede (fam : Family) (b c : Nat) (s : State) :
    ((supersede fam b s).bay c).sansMarks = (s.bay c).sansMarks := by
  refine supersede_induct (fun t => (t.bay c).sansMarks = (s.bay c).sansMarks) fam b s rfl ?_ fun _ _ _ h => h
  intro t i f o _ ht
  rw [← ht]
  exact bay_returnToOwed_proj Bay.sansMarks f.origin (t.setBSlot i (.empty o)) c fun _ =>
    ⟨fun _ => rfl, fun _ => rfl, fun _ => rfl, fun _ => rfl⟩

theorem sansLamp_oweLamp (b c : Nat) (s : State) : ((oweLamp b s).bay c).sansLamp = (s.bay c).sansLamp := by
  rw [oweLamp_eq, State.bay_modBay_proj Bay.sansLamp _ b c (fun x => { x with lamp := true }) fun _ => rfl]
  exact sansLamp_supersede b c s

@[simp] theorem sansMarks_oweLamp (b c : Nat) (s : State) : ((oweLamp b s).bay c).sansMarks = (s.bay c).sansMarks := by
  rw [oweLamp_eq, State.bay_modBay_proj Bay.sansMarks _ b c (fun x => { x with lamp := true }) fun _ => rfl]
  exact sansMarks_supersede .lamp b c s

@[simp] theorem sansMarks_owePower (b c : Nat) (m : PowerMark) (s : State) :
    ((owePower b m s).bay c).sansMarks = (s.bay c).sansMarks := by
  rw [owePower_eq, State.bay_modBay_proj Bay.sansMarks _ b c (fun x => { x with power := some (match x.power with | none => m | some o => mergePower o m) }) fun _ => rfl]
  exact sansMarks_supersede .power b c s

@[simp] theorem sansMarks_oweAccess (b c : Nat) (r : AccessReason) (s : State) :
    ((oweAccess b r s).bay c).sansMarks = (s.bay c).sansMarks := by
  rw [oweAccess_eq, State.bay_modBay_proj Bay.sansMarks _ b c (fun x => { x with access := some r }) fun _ => rfl]
  exact sansMarks_supersede .access b c s

@[simp] theorem sansMarks_oweQuery (b c : Nat) (s : State) :
    ((oweQuery b s).bay c).sansMarks = (s.bay c).sansMarks := by
  rw [oweQuery_eq, State.bay_modBay_proj Bay.sansMarks _ b c (fun x => { x with query := true }) fun _ => rfl]
  exact sansMarks_supersede .query b c s

/-- What an event's lamp work leaves: everything of every bay but its LAMP mark (R12). -/
theorem sansLamp_oweLampChanges (n : Nat) (old new : List Lamp) (s : State) (c : Nat) :
    ((oweLampChanges n old new s).bay c).sansLamp = (s.bay c).sansLamp := by
  induction old generalizing n new s with
  | nil => rfl
  | cons o os ih =>
    cases new with
    | nil => rfl
    | cons m ms =>
      show ((oweLampChanges (n + 1) os ms _).bay c).sansLamp = _
      rw [ih]
      split
      · exact sansLamp_oweLamp n c s
      · rfl

theorem sansLamp_event (f : State → State) (s : State) (c : Nat) :
    ((event f s).bay c).sansLamp = ((f s).bay c).sansLamp := sansLamp_oweLampChanges _ _ _ _ c

theorem Bay.sansMarks_of_sansLamp {x y : Bay} (h : x.sansLamp = y.sansLamp) : x.sansMarks = y.sansMarks := by
  cases x; cases y
  simp only [Bay.sansLamp, Bay.mk.injEq] at h
  simp [Bay.sansMarks, h]

end Sys2Proof.Machine
end

