-- ==== Sys2Proof/Laws/Book.lean ====
section
/-! SUPPORT. What the operations of the book do: finding, changing, closing and inserting a record (R41 to R45). -/

namespace Sys2Proof.Machine

/-! ### Finding and changing a record -/

theorem find_handle {s : State} {h : Nat} {r : Reservation} (hf : s.find h = some r) : r.handle = h := by
  simpa using List.find?_some hf

theorem find_mem {s : State} {h : Nat} {r : Reservation} (hf : s.find h = some r) : r ∈ s.book :=
  List.mem_of_find?_eq_some hf

/-- Changing the records of a handle changes what the handle finds, and nothing that another handle finds. -/
theorem find_modRec (s : State) (h k : Nat) (f : Reservation → Reservation) (hf : ∀ r, (f r).handle = r.handle) :
    (s.modRec h f).find k = (s.find k).map fun r => if k = h then f r else r := by
  unfold State.find State.modRec
  show List.find? _ (s.book.map _) = _
  induction s.book with
  | nil => rfl
  | cons r rs ih =>
    by_cases hr : r.handle = k
    · by_cases hk : k = h
      · simp [hr, hk, hf]
      · simp [hr, hk]
    · by_cases hk : r.handle = h
      · have hk' : (r.handle == k) = false := by simpa using hr
        simp only [List.map_cons, List.find?_cons, hk, if_true, hf]
        rw [← hk, hk']
        simpa [hk] using ih
      · have hk' : (r.handle == k) = false := by simpa using hr
        simp only [List.map_cons, List.find?_cons, hk, if_false, hk']
        exact ih

/-- Changing a record leaves the level but its book. -/
theorem level_modRec (s : State) (h : Nat) (f : Reservation → Reservation) :
    (s.modRec h f).level = { s.level with book := s.bookWith h f } := rfl

/-! ### Closing -/

/-- What closing a record does to the book, the waiting-bay list and the slot's generation (R45). -/
theorem level_closeRecord {s : State} {h : Nat} {r : Reservation} (hf : s.find h = some r) (reason : CloseReason) :
    (closeRecord h reason s).level = s.levelWithout h := by
  unfold closeRecord
  rw [hf]
  by_cases hc : reason = .cleared <;> simp [hc] <;> rfl

/-- The notice of a close: CLOSED, but for a record that BOOK_CLEAR closes (R45, R63). -/
theorem sp_closeRecord {s : State} {h : Nat} {r : Reservation} (hf : s.find h = some r) (reason : CloseReason)
    (hc : reason ≠ .cleared) :
    (closeRecord h reason s).sp = s.sp.queueNotice s.clock (.closed (closedInfo r reason)) := by
  unfold closeRecord
  rw [hf]
  simp [hc, notify]

/-- Nothing is closed by a stale handle. -/
theorem closeRecord_of_stale {s : State} {h : Nat} (hf : s.find h = none) (reason : CloseReason) :
    closeRecord h reason s = s := by
  unfold closeRecord
  rw [hf]

/-! ### Slots and insertion -/

theorem slotOf_handleFor (s : State) (slot : Nat) (h : slot < 512) : slotOf (s.handleFor slot) = slot := by
  simp only [slotOf, State.handleFor, Config.slots]
  omega

/-- The slot given is one of the 512 and no live record stands in it (R41). -/
theorem freeSlot_spec {s : State} {slot : Nat} (h : s.freeSlot = some slot) :
    slot < 512 ∧ ∀ r ∈ s.book, slotOf r.handle ≠ slot := by
  have hm := List.mem_of_find?_eq_some h
  have hp := List.find?_some h
  exact ⟨List.mem_range.mp hm, by simpa using hp⟩

/-- No live record has the handle a free slot gives. -/
theorem find_handleFor {s : State} {slot : Nat} (h : s.freeSlot = some slot) :
    s.find (s.handleFor slot) = none := by
  obtain ⟨hs, hn⟩ := freeSlot_spec h
  unfold State.find
  rw [List.find?_eq_none]
  intro r hr
  simp only [beq_iff_eq]
  intro he
  exact hn r hr (he ▸ slotOf_handleFor s slot hs)

theorem insertBy_perm {α : Type} (before : α → α → Bool) (x : α) (l : List α) :
    List.Perm (insertBy before x l) (x :: l) := by
  induction l with
  | nil => exact List.Perm.refl _
  | cons y ys ih =>
    unfold insertBy
    split
    · exact List.Perm.refl _
    · exact (ih.cons y).trans (List.Perm.swap x y ys)

theorem mem_insertBy {α : Type} (before : α → α → Bool) (x y : α) (l : List α) :
    y ∈ insertBy before x l ↔ y = x ∨ y ∈ l := by
  rw [(insertBy_perm before x l).mem_iff, List.mem_cons]

end Sys2Proof.Machine
end

