-- ==== Sys2Proof/Laws/Frame.lean ====
section
/-! SUPPORT. What the operations of the level leave alone: each shared operation keeps `State.control`, which the
clock, the links and the management requests alone write. -/

namespace Sys2Proof.Machine

/-! ### The named updates -/

theorem State.maps_setBay (s : State) (b : Nat) (x : Bay) (h : x.map = (s.bay b).map) :
    (s.setBay b x).bays.map Bay.map = s.bays.map Bay.map := by
  refine Vector.ext fun i hi => ?_
  by_cases hb : b = i
  · subst hb
    simp [State.setBay, h, State.bay, hi]
  · simp [State.setBay, hb]

/-- A write of a bay record that keeps the map entry keeps the control state. -/
@[simp] theorem State.control_modBay (s : State) (b : Nat) (f : Bay → Bay) (h : ∀ x, (f x).map = x.map) :
    (s.modBay b f).control = s.control := by
  have hm := s.maps_setBay b (f (s.bay b)) (h _)
  unfold State.modBay State.control
  rw [hm]
  rfl

section
variable (s : State)

@[simp] theorem control_modRec (h : Nat) (f : Reservation → Reservation) : (s.modRec h f).control = s.control := rfl
@[simp] theorem control_insertRecord (r : Reservation) : (insertRecord r s).control = s.control := rfl
@[simp] theorem control_rebind (b : Nat) : (rebind b s).control = s.control := rfl
@[simp] theorem control_addRecord (r : Reservation) : (addRecord r s).control = s.control := rfl
@[simp] theorem control_joinWaiting (r : Reservation) : (joinWaiting r s).control = s.control := rfl
@[simp] theorem control_leaveWaiting (h : Nat) : (leaveWaiting h s).control = s.control := rfl
@[simp] theorem control_dropWalkup (t : Nat) : (dropWalkup t s).control = s.control := rfl
@[simp] theorem control_setQueue (br : Nat) (q : List QueueEntry) : (setQueue br q s).control = s.control := rfl
@[simp] theorem control_callRescan  : (callRescan s).control = s.control := rfl
@[simp] theorem control_callRelease (b : Nat) : (callRelease b s).control = s.control := rfl
@[simp] theorem control_notify (n : NoticeBody) : (notify n s).control = s.control := rfl
@[simp] theorem control_setNotices (ns : List Notice) : (setNotices ns s).control = s.control := rfl
@[simp] theorem control_setBSlot (i : Nat) (x : BSlot) : (s.setBSlot i x).control = s.control := rfl
@[simp] theorem control_withWork (w : Work) : State.control { s with work := w } = s.control := rfl
@[simp] theorem control_setTimer (b : Nat) (t : Timer) : (setTimer b t s).control = s.control := s.control_modBay b _ fun _ => rfl
@[simp] theorem control_setBayState (b : Nat) (x : BayState) : (setBayState b x s).control = s.control := s.control_modBay b _ fun _ => rfl
@[simp] theorem control_freeBay (b : Nat) : (freeBay b s).control = s.control := s.control_modBay b _ fun _ => rfl
@[simp] theorem control_takeOff (b : Nat) : (takeOff b s).control = s.control := s.control_modBay b _ fun _ => rfl
@[simp] theorem control_dropTimer (b : Nat) : (dropTimer b s).control = s.control := s.control_modBay b _ fun _ => rfl

end

/-! ### Marks, lamps and timers -/

@[simp] theorem control_returnToOwed (o : FillOrigin) (s : State) : (returnToOwed o s).control = s.control := by
  cases o <;> first | rfl | exact s.control_modBay _ _ fun _ => rfl

@[simp] theorem control_emptySlot (i : Nat) (f : BFill) (o : SlotOutcome) (s : State) :
    (emptySlot i f o s).control = s.control := by simp [emptySlot]

@[simp] theorem control_supersede (fam : Family) (b : Nat) (s : State) :
    (supersede fam b s).control = s.control :=
  supersede_induct (fun t => t.control = s.control) fam b s rfl (fun t i f o _ h => by simpa using h)
    fun _ _ _ h => by simpa using h

@[simp] theorem control_owePower (b : Nat) (m : PowerMark) (s : State) : (owePower b m s).control = s.control := by
  simp [owePower_eq]

@[simp] theorem control_oweAccess (b : Nat) (r : AccessReason) (s : State) : (oweAccess b r s).control = s.control := by
  simp [oweAccess_eq]

@[simp] theorem control_oweLamp (b : Nat)  (s : State) : (oweLamp b s).control = s.control := by
  simp [oweLamp_eq]

@[simp] theorem control_oweQuery (b : Nat)  (s : State) : (oweQuery b s).control = s.control := by
  simp [oweQuery_eq]

@[simp] theorem control_oweLampChanges (n : Nat) (old new : List Lamp) (s : State) :
    (oweLampChanges n old new s).control = s.control := by
  induction old generalizing n new s with
  | nil => rfl
  | cons o os ih =>
    cases new with
    | nil => rfl
    | cons m ms =>
      show (oweLampChanges (n + 1) os ms _).control = _
      rw [ih]
      split
      · simp
      · rfl

theorem control_event (f : State → State) (s : State) : (event f s).control = (f s).control := by simp [event]

@[simp] theorem control_armTimer (b : Nat) (p : Purpose) (d : Tick) (s : State) :
    (armTimer b p d s).control = s.control := by
  rw [armTimer_eq]
  split
  · simp
  · simp only [control_withWork]; simp

/-- A fold of steps that each keep the control state keeps it. -/
theorem control_foldl {α : Type} (f : State → α → State) (h : ∀ s x, (f s x).control = s.control) (l : List α)
    (s : State) : (l.foldl f s).control = s.control := by
  induction l generalizing s with
  | nil => rfl
  | cons x xs ih => rw [List.foldl_cons, ih, h]

/-! ### The book -/

@[simp] theorem control_closeRecord (h : Nat) (r : CloseReason) (s : State) : (closeRecord h r s).control = s.control := by
  unfold closeRecord
  split
  · rfl
  · split <;> rfl

@[simp] theorem control_place (h b : Nat) (n : PlaceNotice) (s : State) : (place h b n s).control = s.control := by
  unfold place
  try dsimp only
  repeat' split
  all_goals simp

@[simp] theorem control_goWaiting (h : Nat) (c : WaitCause) (s : State) : (goWaiting h c s).control = s.control := by
  unfold goWaiting
  try dsimp only
  repeat' split
  all_goals simp

@[simp] theorem control_placeBySelection (h : Nat) (l : Option Nat) (n : PlaceNotice) (s : State) : (placeBySelection h l n s).control = s.control := by
  unfold placeBySelection
  try dsimp only
  repeat' split
  all_goals simp

@[simp] theorem control_reseat (h l : Nat) (s : State) : (reseat h l s).control = s.control := by
  unfold reseat
  try dsimp only
  repeat' split
  all_goals simp

@[simp] theorem control_beginHold (h : Nat) (s : State) : (beginHold h s).control = s.control := by
  unfold beginHold
  try dsimp only
  repeat' split
  all_goals simp

@[simp] theorem control_assignWalkup (slot t b stay : Nat) (c : AssignCause) (e : Option Tick) (s : State) : (assignWalkup slot t b stay c e s).control = s.control := by
  simp [assignWalkup]

@[simp] theorem control_offerWalkups (b : Nat) (s : State) : (offerWalkups b s).control = s.control := by
  unfold offerWalkups
  repeat' split
  all_goals first | rfl | (rw [control_assignWalkup]; rfl)

@[simp] theorem control_releaseService (b : Nat) (s : State) : (releaseService b s).control = s.control := by
  unfold releaseService
  try dsimp only
  repeat' split
  all_goals simp

/-! ### The share unit -/

@[simp] theorem control_leaveSet (b : Nat) (r : PowerReason) (s : State) : (leaveSet b r s).control = s.control := by
  unfold leaveSet
  simp only [control_owePower, State.control_modBay, implies_true]
  rfl

@[simp] theorem control_dropFromQueue (b : Nat) (s : State) : (dropFromQueue b s).control = s.control := by
  simp [dropFromQueue]

@[simp] theorem control_setHolderState (b : Nat) (x : ResState) (s : State) : (setHolderState b x s).control = s.control := by
  unfold setHolderState
  try dsimp only
  repeat' split
  all_goals simp

@[simp] theorem control_endPaused (b : Nat) (s : State) : (endPaused b s).control = s.control := by
  unfold endPaused
  try dsimp only
  repeat' split
  all_goals simp

@[simp] theorem control_leaveQueue (b : Nat) (s : State) : (leaveQueue b s).control = s.control := by
  unfold leaveQueue
  try dsimp only
  repeat' split
  all_goals simp

@[simp] theorem control_joinQueue (b : Nat) (s : State) : (joinQueue b s).control = s.control := by
  unfold joinQueue
  try dsimp only
  repeat' split
  all_goals simp

@[simp] theorem control_displace (e : QueueEntry) (s : State) : (displace e s).control = s.control := by
  unfold displace
  try dsimp only
  repeat' split
  all_goals simp

@[simp] theorem control_joinPaused (e : EnergisedEntry) (s : State) : (joinPaused e s).control = s.control := by
  unfold joinPaused
  try dsimp only
  repeat' split
  all_goals simp

@[simp] theorem control_notifyPaused (c : PauseCause) (e : EnergisedEntry) (r : Option Reservation) (s : State) :
    (notifyPaused c e r s).control = s.control := by
  cases r <;> simp [notifyPaused]

@[simp] theorem control_pauseBay (c : PauseCause) (e : EnergisedEntry) (s : State) : (pauseBay c e s).control = s.control := by
  simp [pauseBay]

@[simp] theorem control_pauseBranch (br : Nat) (n : Nat) (s : State) : (pauseBranch br n s).control = s.control := by
  induction n generalizing s with
  | zero => rfl
  | succ n ih =>
    unfold pauseBranch
    repeat' split
    all_goals simp [ih]

@[simp] theorem control_pauseLevel (n : Nat) (s : State) : (pauseLevel n s).control = s.control := by
  induction n generalizing s with
  | zero => rfl
  | succ n ih =>
    unfold pauseLevel
    repeat' split
    all_goals simp [ih]

@[simp] theorem control_fixPositions (n : Nat) (s : State) : (fixPositions n s).control = s.control := by
  rfl

@[simp] theorem control_setCeiling (b c : Nat) (s : State) : (setCeiling b c s).control = s.control := by
  unfold setCeiling
  try dsimp only
  repeat' split
  all_goals simp

@[simp] theorem control_writeCeilings (cs : List (Nat × Nat)) (s : State) : (writeCeilings cs s).control = s.control := by
  exact control_foldl _ (fun s x => by simp) cs s

@[simp] theorem control_closeIdleWindow (b : Nat) (s : State) : (closeIdleWindow b s).control = s.control := by
  unfold closeIdleWindow
  try dsimp only
  repeat' split
  all_goals simp

@[simp] theorem control_closePaused (bs : List Nat) (s : State) : (closePaused bs s).control = s.control := by
  refine control_foldl _ (fun s b => ?_) bs s
  repeat' split
  all_goals simp

@[simp] theorem control_recompute  (s : State) : (recompute s).control = s.control := by
  unfold recompute
  simp only [control_closePaused, control_writeCeilings, control_fixPositions, control_pauseLevel]
  exact control_foldl _ (fun s br => by simp) _ s

@[simp] theorem control_startBay (e : QueueEntry) (s : State) : (startBay e s).control = s.control := by
  unfold startBay
  dsimp only
  split
  all_goals simp only [control_notify, control_owePower, control_recompute, control_modRec, control_armTimer,
    control_setBayState]
  all_goals exact control_dropFromQueue e.bay s

@[simp] theorem control_walkQueue (br : Nat) (es : List QueueEntry) (s : State) : (walkQueue br es s).control = s.control := by
  induction es generalizing s with
  | nil => rfl
  | cons e es ih =>
    unfold walkQueue
    repeat' split
    all_goals simp [ih]

@[simp] theorem control_rescan  (s : State) : (rescan s).control = s.control := by
  unfold rescan
  split
  · exact control_foldl _ (fun s br => by simp) _ s
  · rfl

@[simp] theorem control_changeBudgets  (s : State) : (changeBudgets s).control = s.control := by
  simp [changeBudgets]

/-! ### What happens at a bay -/

@[simp] theorem control_stopSession (b : Nat) (r : PowerReason) (i : Bool) (s : State) : (stopSession b r i s).control = s.control := by
  unfold stopSession
  try dsimp only
  repeat' split
  all_goals simp

@[simp] theorem control_reshare  (s : State) : (reshare s).control = s.control := by
  simp [reshare]

@[simp] theorem control_endSession (b : Nat) (r : PowerReason) (s : State) : (endSession b r s).control = s.control := by
  simp [endSession]

@[simp] theorem control_chargeEnd (b : Nat) (s : State) : (chargeEnd b s).control = s.control := by
  unfold chargeEnd
  try dsimp only
  repeat' split
  all_goals simp

@[simp] theorem control_enterSuspect (b : Nat) (r : BayReason) (s : State) : (enterSuspect b r s).control = s.control := by
  unfold enterSuspect
  dsimp only
  split
  all_goals first | rw [control_reshare] | skip
  all_goals simp only [control_notify, State.control_modBay, implies_true]
  all_goals (repeat' split)
  all_goals simp

@[simp] theorem control_occupy (b : Nat) (s : State) : (occupy b s).control = s.control := by
  simp [occupy]

@[simp] theorem control_occupiedEvent (b : Nat) (s : State) : (occupiedEvent b s).control = s.control := by
  unfold occupiedEvent
  try dsimp only
  repeat' split
  all_goals simp

@[simp] theorem control_plugHolder (b : Nat) (r : Reservation) (s : State) : (plugHolder b r s).control = s.control := by
  unfold plugHolder
  try dsimp only
  repeat' split
  all_goals simp

@[simp] theorem control_seatOn (h t x : Nat) (s : State) : (seatOn h t x s).control = s.control := by
  simp [seatOn]

@[simp] theorem control_seatPower (x : Nat) (s : State) : (seatPower x s).control = s.control := by
  simp [seatPower]

@[simp] theorem control_reseatHolder (x : Nat) (s : State) : (reseatHolder x s).control = s.control := by
  unfold reseatHolder
  try dsimp only
  repeat' split
  all_goals simp

@[simp] theorem control_dropClaim (r : Reservation) (s : State) : (dropClaim r s).control = s.control := by
  unfold dropClaim
  try dsimp only
  repeat' split
  all_goals simp

@[simp] theorem control_adopt (r : Reservation) (x : Nat) (s : State) : (adopt r x s).control = s.control := by
  simp [adopt]

@[simp] theorem control_seatWalkup (t x stay : Nat) (c : AssignCause) (e : Option Tick) (s : State) : (seatWalkup t x stay c e s).control = s.control := by
  unfold seatWalkup
  try dsimp only
  repeat' split
  all_goals simp

@[simp] theorem control_foreignPlug (x t h : Nat) (s : State) : (foreignPlug x t h s).control = s.control := by
  simp [foreignPlug]

@[simp] theorem control_lockOut (x t : Nat) (c : ForeignCause) (s : State) : (lockOut x t c s).control = s.control := by
  simp [lockOut]

@[simp] theorem control_driveIn (x t : Nat) (s : State) : (driveIn x t s).control = s.control := by
  unfold driveIn
  try dsimp only
  repeat' split
  all_goals simp

@[simp] theorem control_plugOccupied (x t : Nat) (s : State) : (plugOccupied x t s).control = s.control := by
  unfold plugOccupied
  try dsimp only
  repeat' split
  all_goals simp

@[simp] theorem control_plugParked (x t : Nat) (s : State) : (plugParked x t s).control = s.control := by
  unfold plugParked
  try dsimp only
  repeat' split
  all_goals simp

@[simp] theorem control_pluggedEvent (x t : Nat) (s : State) : (pluggedEvent x t s).control = s.control := by
  unfold pluggedEvent
  try dsimp only
  repeat' split
  all_goals simp

@[simp] theorem control_unpluggedEvent (b : Nat) (s : State) : (unpluggedEvent b s).control = s.control := by
  unfold unpluggedEvent
  try dsimp only
  repeat' split
  all_goals simp

@[simp] theorem control_chargeDoneEvent (b : Nat) (s : State) : (chargeDoneEvent b s).control = s.control := by
  unfold chargeDoneEvent
  try dsimp only
  repeat' split
  all_goals simp

@[simp] theorem control_vacatedEvent (b : Nat) (s : State) : (vacatedEvent b s).control = s.control := by
  unfold vacatedEvent
  dsimp only
  repeat' split
  all_goals simp

@[simp] theorem control_postFaultEvent (b : Nat) (s : State) : (postFaultEvent b s).control = s.control := by
  unfold postFaultEvent
  try dsimp only
  repeat' split
  all_goals simp

@[simp] theorem control_settleExpiry (b : Nat) (s : State) : (settleExpiry b s).control = s.control := by
  unfold settleExpiry
  try dsimp only
  repeat' split
  all_goals simp

@[simp] theorem control_graceExpiry (b : Nat) (s : State) : (graceExpiry b s).control = s.control := by
  unfold graceExpiry
  try dsimp only
  repeat' split
  all_goals simp

@[simp] theorem control_plugWaitExpiry (b : Nat) (s : State) : (plugWaitExpiry b s).control = s.control := by
  unfold plugWaitExpiry
  try dsimp only
  repeat' split
  all_goals simp

@[simp] theorem control_inrushExpiry (b : Nat) (s : State) : (inrushExpiry b s).control = s.control := by
  unfold inrushExpiry
  try dsimp only
  repeat' split
  all_goals simp

@[simp] theorem control_windowEndExpiry (b : Nat) (s : State) : (windowEndExpiry b s).control = s.control := by
  unfold windowEndExpiry
  try dsimp only
  repeat' split
  all_goals simp

@[simp] theorem control_overstayExpiry (b : Nat) (s : State) : (overstayExpiry b s).control = s.control := by
  unfold overstayExpiry
  try dsimp only
  repeat' split
  all_goals simp

@[simp] theorem control_expire (b : Nat) (s : State) : (expire b s).control = s.control := by
  unfold expire
  try dsimp only
  repeat' split
  all_goals simp

/-! ### A whole event -/

theorem control_finishStep {s t : State} (h : finishStep s = some t) : t.control = s.control := by
  unfold finishStep at h
  repeat' split at h
  all_goals simp only [Option.some.injEq, reduceCtorEq] at h
  all_goals subst h
  all_goals first
    | rfl
    | (repeat' split) <;> simp [control_event]

@[simp] theorem control_finish (n : Nat) (s : State) : (finish n s).control = s.control := by
  induction n generalizing s with
  | zero => rfl
  | succ n ih =>
    unfold finish
    split
    · rename_i t h
      rw [ih, control_finishStep h]
    · rfl

/-- A whole event leaves the control state as its own effect leaves it. -/
theorem control_takeEvent (f : State → State) (s : State) : (takeEvent f s).control = (f s).control := by
  simp [takeEvent, control_event]

end Sys2Proof.Machine
end

