-- ==== Sys2Proof/Laws/Events.lean ====
section
/-! SUPPORT. What owing a frame can change: the bay records and the transmit slots, and nothing else; and how an event
finishes when it leaves nothing to be brought about. -/

namespace Sys2Proof.Machine

/-- `t` is `s` but for the bay records and the B-port's transmit slots. -/
def MarksOnly (s t : State) : Prop := t = { s with bays := t.bays, bp := { s.bp with slots := t.bp.slots } }

theorem MarksOnly.eq {s t : State} (h : MarksOnly s t) :
    t = { s with bays := t.bays, bp := { s.bp with slots := t.bp.slots } } := h

section
variable {s t : State}

theorem MarksOnly.clock (h : MarksOnly s t) : t.clock = s.clock := (congrArg State.clock h.eq :)
theorem MarksOnly.clockSet (h : MarksOnly s t) : t.clockSet = s.clockSet := (congrArg State.clockSet h.eq :)
theorem MarksOnly.phase (h : MarksOnly s t) : t.phase = s.phase := (congrArg State.phase h.eq :)
theorem MarksOnly.book (h : MarksOnly s t) : t.book = s.book := (congrArg State.book h.eq :)
theorem MarksOnly.gens (h : MarksOnly s t) : t.gens = s.gens := (congrArg State.gens h.eq :)
theorem MarksOnly.waiting (h : MarksOnly s t) : t.waiting = s.waiting := (congrArg State.waiting h.eq :)
theorem MarksOnly.nextOrder (h : MarksOnly s t) : t.nextOrder = s.nextOrder := (congrArg State.nextOrder h.eq :)
theorem MarksOnly.policy (h : MarksOnly s t) : t.policy = s.policy := (congrArg State.policy h.eq :)
theorem MarksOnly.walkups (h : MarksOnly s t) : t.walkups = s.walkups := (congrArg State.walkups h.eq :)
theorem MarksOnly.active (h : MarksOnly s t) : t.active = s.active := (congrArg State.active h.eq :)
theorem MarksOnly.inForce (h : MarksOnly s t) : t.inForce = s.inForce := (congrArg State.inForce h.eq :)
theorem MarksOnly.energised (h : MarksOnly s t) : t.energised = s.energised := (congrArg State.energised h.eq :)
theorem MarksOnly.queues (h : MarksOnly s t) : t.queues = s.queues := (congrArg State.queues h.eq :)
theorem MarksOnly.settings (h : MarksOnly s t) : t.settings = s.settings := (congrArg State.settings h.eq :)
theorem MarksOnly.sp (h : MarksOnly s t) : t.sp = s.sp := (congrArg State.sp h.eq :)
theorem MarksOnly.unservedDue (h : MarksOnly s t) : t.unservedDue = s.unservedDue := (congrArg State.unservedDue h.eq :)
theorem MarksOnly.work (h : MarksOnly s t) : t.work = s.work := (congrArg State.work h.eq :)
theorem MarksOnly.classes (h : MarksOnly s t) : t.classes = s.classes := (congrArg State.classes h.eq :)
theorem MarksOnly.armed (h : MarksOnly s t) : t.armed = s.armed := (congrArg State.armed h.eq :)
theorem MarksOnly.switchDue (h : MarksOnly s t) : t.switchDue = s.switchDue := (congrArg State.switchDue h.eq :)
theorem MarksOnly.bp_link (h : MarksOnly s t) : t.bp.link = s.bp.link := (congrArg (fun x => x.bp.link) h.eq :)
theorem MarksOnly.bp_rxq (h : MarksOnly s t) : t.bp.rxq = s.bp.rxq := (congrArg (fun x => x.bp.rxq) h.eq :)
theorem MarksOnly.bp_nextFill (h : MarksOnly s t) : t.bp.nextFill = s.bp.nextFill := (congrArg (fun x => x.bp.nextFill) h.eq :)
theorem MarksOnly.bp_relay (h : MarksOnly s t) : t.bp.relay = s.bp.relay := (congrArg (fun x => x.bp.relay) h.eq :)
theorem MarksOnly.bp_outage (h : MarksOnly s t) : t.bp.outage = s.bp.outage := (congrArg (fun x => x.bp.outage) h.eq :)

end

theorem MarksOnly.refl (s : State) : MarksOnly s s := rfl

theorem MarksOnly.trans {s t u : State} (h : MarksOnly s t) (g : MarksOnly t u) : MarksOnly s u := by
  unfold MarksOnly at *
  rw [g, h]

theorem MarksOnly.modBay (s : State) (b : Nat) (f : Bay → Bay) : MarksOnly s (s.modBay b f) := rfl

theorem MarksOnly.returnToOwed (o : FillOrigin) (s : State) : MarksOnly s (returnToOwed o s) := by cases o <;> rfl

theorem MarksOnly.emptySlot (i : Nat) (f : BFill) (o : SlotOutcome) (s : State) : MarksOnly s (emptySlot i f o s) :=
  MarksOnly.trans (t := s.setBSlot i (.empty o)) rfl (MarksOnly.returnToOwed f.origin _)

theorem MarksOnly.supersede (fam : Family) (b : Nat) (s : State) : MarksOnly s (supersede fam b s) :=
  supersede_induct (MarksOnly s) fam b s rfl (fun _ i f o _ h => h.trans (MarksOnly.emptySlot i f o _))
    fun _ _ _ h => h.trans rfl

theorem MarksOnly.owePower (b : Nat) (m : PowerMark) (s : State) : MarksOnly s (owePower b m s) :=
  (MarksOnly.supersede .power b s).trans (MarksOnly.modBay _ b _)

theorem MarksOnly.oweAccess (b : Nat) (r : AccessReason) (s : State) : MarksOnly s (oweAccess b r s) :=
  (MarksOnly.supersede .access b s).trans (MarksOnly.modBay _ b _)

theorem MarksOnly.oweLamp (b : Nat) (s : State) : MarksOnly s (oweLamp b s) :=
  (MarksOnly.supersede .lamp b s).trans (MarksOnly.modBay _ b _)

theorem MarksOnly.oweQuery (b : Nat) (s : State) : MarksOnly s (oweQuery b s) :=
  (MarksOnly.supersede .query b s).trans (MarksOnly.modBay _ b _)

theorem MarksOnly.oweLampChanges (n : Nat) (old new : List Lamp) (s : State) :
    MarksOnly s (oweLampChanges n old new s) := by
  induction old generalizing n new s with
  | nil => rfl
  | cons o os ih =>
    cases new with
    | nil => rfl
    | cons m ms =>
      refine MarksOnly.trans ?_ (ih (n + 1) ms _)
      split
      · exact MarksOnly.oweLamp n s
      · rfl

/-- An event leaves what its effect leaves, but for bay records and transmit slots. -/
theorem MarksOnly.event (f : State → State) (s : State) : MarksOnly (f s) (event f s) :=
  MarksOnly.oweLampChanges _ _ _ _


section
variable (fam : Family) (b : Nat) (s : State)

@[simp] theorem supersede_clock : (supersede fam b s).clock = s.clock := (MarksOnly.supersede fam b s).clock
@[simp] theorem supersede_clockSet : (supersede fam b s).clockSet = s.clockSet := (MarksOnly.supersede fam b s).clockSet
@[simp] theorem supersede_phase : (supersede fam b s).phase = s.phase := (MarksOnly.supersede fam b s).phase
@[simp] theorem supersede_book : (supersede fam b s).book = s.book := (MarksOnly.supersede fam b s).book
@[simp] theorem supersede_gens : (supersede fam b s).gens = s.gens := (MarksOnly.supersede fam b s).gens
@[simp] theorem supersede_waiting : (supersede fam b s).waiting = s.waiting := (MarksOnly.supersede fam b s).waiting
@[simp] theorem supersede_nextOrder : (supersede fam b s).nextOrder = s.nextOrder := (MarksOnly.supersede fam b s).nextOrder
@[simp] theorem supersede_policy : (supersede fam b s).policy = s.policy := (MarksOnly.supersede fam b s).policy
@[simp] theorem supersede_walkups : (supersede fam b s).walkups = s.walkups := (MarksOnly.supersede fam b s).walkups
@[simp] theorem supersede_active : (supersede fam b s).active = s.active := (MarksOnly.supersede fam b s).active
@[simp] theorem supersede_inForce : (supersede fam b s).inForce = s.inForce := (MarksOnly.supersede fam b s).inForce
@[simp] theorem supersede_energised : (supersede fam b s).energised = s.energised := (MarksOnly.supersede fam b s).energised
@[simp] theorem supersede_queues : (supersede fam b s).queues = s.queues := (MarksOnly.supersede fam b s).queues
@[simp] theorem supersede_settings : (supersede fam b s).settings = s.settings := (MarksOnly.supersede fam b s).settings
@[simp] theorem supersede_sp : (supersede fam b s).sp = s.sp := (MarksOnly.supersede fam b s).sp
@[simp] theorem supersede_unservedDue : (supersede fam b s).unservedDue = s.unservedDue := (MarksOnly.supersede fam b s).unservedDue
@[simp] theorem supersede_work : (supersede fam b s).work = s.work := (MarksOnly.supersede fam b s).work
@[simp] theorem supersede_classes : (supersede fam b s).classes = s.classes := (MarksOnly.supersede fam b s).classes
@[simp] theorem supersede_armed : (supersede fam b s).armed = s.armed := (MarksOnly.supersede fam b s).armed
@[simp] theorem supersede_switchDue : (supersede fam b s).switchDue = s.switchDue := (MarksOnly.supersede fam b s).switchDue
@[simp] theorem supersede_bp_link : (supersede fam b s).bp.link = s.bp.link := (MarksOnly.supersede fam b s).bp_link
@[simp] theorem supersede_bp_rxq : (supersede fam b s).bp.rxq = s.bp.rxq := (MarksOnly.supersede fam b s).bp_rxq
@[simp] theorem supersede_bp_nextFill : (supersede fam b s).bp.nextFill = s.bp.nextFill := (MarksOnly.supersede fam b s).bp_nextFill
@[simp] theorem supersede_bp_relay : (supersede fam b s).bp.relay = s.bp.relay := (MarksOnly.supersede fam b s).bp_relay
@[simp] theorem supersede_bp_outage : (supersede fam b s).bp.outage = s.bp.outage := (MarksOnly.supersede fam b s).bp_outage

end

section
variable (b : Nat) (m : PowerMark) (s : State)

@[simp] theorem owePower_clock : (owePower b m s).clock = s.clock := (MarksOnly.owePower b m s).clock
@[simp] theorem owePower_clockSet : (owePower b m s).clockSet = s.clockSet := (MarksOnly.owePower b m s).clockSet
@[simp] theorem owePower_phase : (owePower b m s).phase = s.phase := (MarksOnly.owePower b m s).phase
@[simp] theorem owePower_book : (owePower b m s).book = s.book := (MarksOnly.owePower b m s).book
@[simp] theorem owePower_gens : (owePower b m s).gens = s.gens := (MarksOnly.owePower b m s).gens
@[simp] theorem owePower_waiting : (owePower b m s).waiting = s.waiting := (MarksOnly.owePower b m s).waiting
@[simp] theorem owePower_nextOrder : (owePower b m s).nextOrder = s.nextOrder := (MarksOnly.owePower b m s).nextOrder
@[simp] theorem owePower_policy : (owePower b m s).policy = s.policy := (MarksOnly.owePower b m s).policy
@[simp] theorem owePower_walkups : (owePower b m s).walkups = s.walkups := (MarksOnly.owePower b m s).walkups
@[simp] theorem owePower_active : (owePower b m s).active = s.active := (MarksOnly.owePower b m s).active
@[simp] theorem owePower_inForce : (owePower b m s).inForce = s.inForce := (MarksOnly.owePower b m s).inForce
@[simp] theorem owePower_energised : (owePower b m s).energised = s.energised := (MarksOnly.owePower b m s).energised
@[simp] theorem owePower_queues : (owePower b m s).queues = s.queues := (MarksOnly.owePower b m s).queues
@[simp] theorem owePower_settings : (owePower b m s).settings = s.settings := (MarksOnly.owePower b m s).settings
@[simp] theorem owePower_sp : (owePower b m s).sp = s.sp := (MarksOnly.owePower b m s).sp
@[simp] theorem owePower_unservedDue : (owePower b m s).unservedDue = s.unservedDue := (MarksOnly.owePower b m s).unservedDue
@[simp] theorem owePower_work : (owePower b m s).work = s.work := (MarksOnly.owePower b m s).work
@[simp] theorem owePower_classes : (owePower b m s).classes = s.classes := (MarksOnly.owePower b m s).classes
@[simp] theorem owePower_armed : (owePower b m s).armed = s.armed := (MarksOnly.owePower b m s).armed
@[simp] theorem owePower_switchDue : (owePower b m s).switchDue = s.switchDue := (MarksOnly.owePower b m s).switchDue
@[simp] theorem owePower_bp_link : (owePower b m s).bp.link = s.bp.link := (MarksOnly.owePower b m s).bp_link
@[simp] theorem owePower_bp_rxq : (owePower b m s).bp.rxq = s.bp.rxq := (MarksOnly.owePower b m s).bp_rxq
@[simp] theorem owePower_bp_nextFill : (owePower b m s).bp.nextFill = s.bp.nextFill := (MarksOnly.owePower b m s).bp_nextFill
@[simp] theorem owePower_bp_relay : (owePower b m s).bp.relay = s.bp.relay := (MarksOnly.owePower b m s).bp_relay
@[simp] theorem owePower_bp_outage : (owePower b m s).bp.outage = s.bp.outage := (MarksOnly.owePower b m s).bp_outage

end

section
variable (b : Nat) (r : AccessReason) (s : State)

@[simp] theorem oweAccess_clock : (oweAccess b r s).clock = s.clock := (MarksOnly.oweAccess b r s).clock
@[simp] theorem oweAccess_clockSet : (oweAccess b r s).clockSet = s.clockSet := (MarksOnly.oweAccess b r s).clockSet
@[simp] theorem oweAccess_phase : (oweAccess b r s).phase = s.phase := (MarksOnly.oweAccess b r s).phase
@[simp] theorem oweAccess_book : (oweAccess b r s).book = s.book := (MarksOnly.oweAccess b r s).book
@[simp] theorem oweAccess_gens : (oweAccess b r s).gens = s.gens := (MarksOnly.oweAccess b r s).gens
@[simp] theorem oweAccess_waiting : (oweAccess b r s).waiting = s.waiting := (MarksOnly.oweAccess b r s).waiting
@[simp] theorem oweAccess_nextOrder : (oweAccess b r s).nextOrder = s.nextOrder := (MarksOnly.oweAccess b r s).nextOrder
@[simp] theorem oweAccess_policy : (oweAccess b r s).policy = s.policy := (MarksOnly.oweAccess b r s).policy
@[simp] theorem oweAccess_walkups : (oweAccess b r s).walkups = s.walkups := (MarksOnly.oweAccess b r s).walkups
@[simp] theorem oweAccess_active : (oweAccess b r s).active = s.active := (MarksOnly.oweAccess b r s).active
@[simp] theorem oweAccess_inForce : (oweAccess b r s).inForce = s.inForce := (MarksOnly.oweAccess b r s).inForce
@[simp] theorem oweAccess_energised : (oweAccess b r s).energised = s.energised := (MarksOnly.oweAccess b r s).energised
@[simp] theorem oweAccess_queues : (oweAccess b r s).queues = s.queues := (MarksOnly.oweAccess b r s).queues
@[simp] theorem oweAccess_settings : (oweAccess b r s).settings = s.settings := (MarksOnly.oweAccess b r s).settings
@[simp] theorem oweAccess_sp : (oweAccess b r s).sp = s.sp := (MarksOnly.oweAccess b r s).sp
@[simp] theorem oweAccess_unservedDue : (oweAccess b r s).unservedDue = s.unservedDue := (MarksOnly.oweAccess b r s).unservedDue
@[simp] theorem oweAccess_work : (oweAccess b r s).work = s.work := (MarksOnly.oweAccess b r s).work
@[simp] theorem oweAccess_classes : (oweAccess b r s).classes = s.classes := (MarksOnly.oweAccess b r s).classes
@[simp] theorem oweAccess_armed : (oweAccess b r s).armed = s.armed := (MarksOnly.oweAccess b r s).armed
@[simp] theorem oweAccess_switchDue : (oweAccess b r s).switchDue = s.switchDue := (MarksOnly.oweAccess b r s).switchDue
@[simp] theorem oweAccess_bp_link : (oweAccess b r s).bp.link = s.bp.link := (MarksOnly.oweAccess b r s).bp_link
@[simp] theorem oweAccess_bp_rxq : (oweAccess b r s).bp.rxq = s.bp.rxq := (MarksOnly.oweAccess b r s).bp_rxq
@[simp] theorem oweAccess_bp_nextFill : (oweAccess b r s).bp.nextFill = s.bp.nextFill := (MarksOnly.oweAccess b r s).bp_nextFill
@[simp] theorem oweAccess_bp_relay : (oweAccess b r s).bp.relay = s.bp.relay := (MarksOnly.oweAccess b r s).bp_relay
@[simp] theorem oweAccess_bp_outage : (oweAccess b r s).bp.outage = s.bp.outage := (MarksOnly.oweAccess b r s).bp_outage

end

section
variable (b : Nat) (s : State)

@[simp] theorem oweLamp_clock : (oweLamp b s).clock = s.clock := (MarksOnly.oweLamp b s).clock
@[simp] theorem oweLamp_clockSet : (oweLamp b s).clockSet = s.clockSet := (MarksOnly.oweLamp b s).clockSet
@[simp] theorem oweLamp_phase : (oweLamp b s).phase = s.phase := (MarksOnly.oweLamp b s).phase
@[simp] theorem oweLamp_book : (oweLamp b s).book = s.book := (MarksOnly.oweLamp b s).book
@[simp] theorem oweLamp_gens : (oweLamp b s).gens = s.gens := (MarksOnly.oweLamp b s).gens
@[simp] theorem oweLamp_waiting : (oweLamp b s).waiting = s.waiting := (MarksOnly.oweLamp b s).waiting
@[simp] theorem oweLamp_nextOrder : (oweLamp b s).nextOrder = s.nextOrder := (MarksOnly.oweLamp b s).nextOrder
@[simp] theorem oweLamp_policy : (oweLamp b s).policy = s.policy := (MarksOnly.oweLamp b s).policy
@[simp] theorem oweLamp_walkups : (oweLamp b s).walkups = s.walkups := (MarksOnly.oweLamp b s).walkups
@[simp] theorem oweLamp_active : (oweLamp b s).active = s.active := (MarksOnly.oweLamp b s).active
@[simp] theorem oweLamp_inForce : (oweLamp b s).inForce = s.inForce := (MarksOnly.oweLamp b s).inForce
@[simp] theorem oweLamp_energised : (oweLamp b s).energised = s.energised := (MarksOnly.oweLamp b s).energised
@[simp] theorem oweLamp_queues : (oweLamp b s).queues = s.queues := (MarksOnly.oweLamp b s).queues
@[simp] theorem oweLamp_settings : (oweLamp b s).settings = s.settings := (MarksOnly.oweLamp b s).settings
@[simp] theorem oweLamp_sp : (oweLamp b s).sp = s.sp := (MarksOnly.oweLamp b s).sp
@[simp] theorem oweLamp_unservedDue : (oweLamp b s).unservedDue = s.unservedDue := (MarksOnly.oweLamp b s).unservedDue
@[simp] theorem oweLamp_work : (oweLamp b s).work = s.work := (MarksOnly.oweLamp b s).work
@[simp] theorem oweLamp_classes : (oweLamp b s).classes = s.classes := (MarksOnly.oweLamp b s).classes
@[simp] theorem oweLamp_armed : (oweLamp b s).armed = s.armed := (MarksOnly.oweLamp b s).armed
@[simp] theorem oweLamp_switchDue : (oweLamp b s).switchDue = s.switchDue := (MarksOnly.oweLamp b s).switchDue
@[simp] theorem oweLamp_bp_link : (oweLamp b s).bp.link = s.bp.link := (MarksOnly.oweLamp b s).bp_link
@[simp] theorem oweLamp_bp_rxq : (oweLamp b s).bp.rxq = s.bp.rxq := (MarksOnly.oweLamp b s).bp_rxq
@[simp] theorem oweLamp_bp_nextFill : (oweLamp b s).bp.nextFill = s.bp.nextFill := (MarksOnly.oweLamp b s).bp_nextFill
@[simp] theorem oweLamp_bp_relay : (oweLamp b s).bp.relay = s.bp.relay := (MarksOnly.oweLamp b s).bp_relay
@[simp] theorem oweLamp_bp_outage : (oweLamp b s).bp.outage = s.bp.outage := (MarksOnly.oweLamp b s).bp_outage

end

section
variable (b : Nat) (s : State)

@[simp] theorem oweQuery_clock : (oweQuery b s).clock = s.clock := (MarksOnly.oweQuery b s).clock
@[simp] theorem oweQuery_clockSet : (oweQuery b s).clockSet = s.clockSet := (MarksOnly.oweQuery b s).clockSet
@[simp] theorem oweQuery_phase : (oweQuery b s).phase = s.phase := (MarksOnly.oweQuery b s).phase
@[simp] theorem oweQuery_book : (oweQuery b s).book = s.book := (MarksOnly.oweQuery b s).book
@[simp] theorem oweQuery_gens : (oweQuery b s).gens = s.gens := (MarksOnly.oweQuery b s).gens
@[simp] theorem oweQuery_waiting : (oweQuery b s).waiting = s.waiting := (MarksOnly.oweQuery b s).waiting
@[simp] theorem oweQuery_nextOrder : (oweQuery b s).nextOrder = s.nextOrder := (MarksOnly.oweQuery b s).nextOrder
@[simp] theorem oweQuery_policy : (oweQuery b s).policy = s.policy := (MarksOnly.oweQuery b s).policy
@[simp] theorem oweQuery_walkups : (oweQuery b s).walkups = s.walkups := (MarksOnly.oweQuery b s).walkups
@[simp] theorem oweQuery_active : (oweQuery b s).active = s.active := (MarksOnly.oweQuery b s).active
@[simp] theorem oweQuery_inForce : (oweQuery b s).inForce = s.inForce := (MarksOnly.oweQuery b s).inForce
@[simp] theorem oweQuery_energised : (oweQuery b s).energised = s.energised := (MarksOnly.oweQuery b s).energised
@[simp] theorem oweQuery_queues : (oweQuery b s).queues = s.queues := (MarksOnly.oweQuery b s).queues
@[simp] theorem oweQuery_settings : (oweQuery b s).settings = s.settings := (MarksOnly.oweQuery b s).settings
@[simp] theorem oweQuery_sp : (oweQuery b s).sp = s.sp := (MarksOnly.oweQuery b s).sp
@[simp] theorem oweQuery_unservedDue : (oweQuery b s).unservedDue = s.unservedDue := (MarksOnly.oweQuery b s).unservedDue
@[simp] theorem oweQuery_work : (oweQuery b s).work = s.work := (MarksOnly.oweQuery b s).work
@[simp] theorem oweQuery_classes : (oweQuery b s).classes = s.classes := (MarksOnly.oweQuery b s).classes
@[simp] theorem oweQuery_armed : (oweQuery b s).armed = s.armed := (MarksOnly.oweQuery b s).armed
@[simp] theorem oweQuery_switchDue : (oweQuery b s).switchDue = s.switchDue := (MarksOnly.oweQuery b s).switchDue
@[simp] theorem oweQuery_bp_link : (oweQuery b s).bp.link = s.bp.link := (MarksOnly.oweQuery b s).bp_link
@[simp] theorem oweQuery_bp_rxq : (oweQuery b s).bp.rxq = s.bp.rxq := (MarksOnly.oweQuery b s).bp_rxq
@[simp] theorem oweQuery_bp_nextFill : (oweQuery b s).bp.nextFill = s.bp.nextFill := (MarksOnly.oweQuery b s).bp_nextFill
@[simp] theorem oweQuery_bp_relay : (oweQuery b s).bp.relay = s.bp.relay := (MarksOnly.oweQuery b s).bp_relay
@[simp] theorem oweQuery_bp_outage : (oweQuery b s).bp.outage = s.bp.outage := (MarksOnly.oweQuery b s).bp_outage

end

section
variable (n : Nat) (old new : List Lamp) (s : State)

@[simp] theorem oweLampChanges_clock : (oweLampChanges n old new s).clock = s.clock := (MarksOnly.oweLampChanges n old new s).clock
@[simp] theorem oweLampChanges_clockSet : (oweLampChanges n old new s).clockSet = s.clockSet := (MarksOnly.oweLampChanges n old new s).clockSet
@[simp] theorem oweLampChanges_phase : (oweLampChanges n old new s).phase = s.phase := (MarksOnly.oweLampChanges n old new s).phase
@[simp] theorem oweLampChanges_book : (oweLampChanges n old new s).book = s.book := (MarksOnly.oweLampChanges n old new s).book
@[simp] theorem oweLampChanges_gens : (oweLampChanges n old new s).gens = s.gens := (MarksOnly.oweLampChanges n old new s).gens
@[simp] theorem oweLampChanges_waiting : (oweLampChanges n old new s).waiting = s.waiting := (MarksOnly.oweLampChanges n old new s).waiting
@[simp] theorem oweLampChanges_nextOrder : (oweLampChanges n old new s).nextOrder = s.nextOrder := (MarksOnly.oweLampChanges n old new s).nextOrder
@[simp] theorem oweLampChanges_policy : (oweLampChanges n old new s).policy = s.policy := (MarksOnly.oweLampChanges n old new s).policy
@[simp] theorem oweLampChanges_walkups : (oweLampChanges n old new s).walkups = s.walkups := (MarksOnly.oweLampChanges n old new s).walkups
@[simp] theorem oweLampChanges_active : (oweLampChanges n old new s).active = s.active := (MarksOnly.oweLampChanges n old new s).active
@[simp] theorem oweLampChanges_inForce : (oweLampChanges n old new s).inForce = s.inForce := (MarksOnly.oweLampChanges n old new s).inForce
@[simp] theorem oweLampChanges_energised : (oweLampChanges n old new s).energised = s.energised := (MarksOnly.oweLampChanges n old new s).energised
@[simp] theorem oweLampChanges_queues : (oweLampChanges n old new s).queues = s.queues := (MarksOnly.oweLampChanges n old new s).queues
@[simp] theorem oweLampChanges_settings : (oweLampChanges n old new s).settings = s.settings := (MarksOnly.oweLampChanges n old new s).settings
@[simp] theorem oweLampChanges_sp : (oweLampChanges n old new s).sp = s.sp := (MarksOnly.oweLampChanges n old new s).sp
@[simp] theorem oweLampChanges_unservedDue : (oweLampChanges n old new s).unservedDue = s.unservedDue := (MarksOnly.oweLampChanges n old new s).unservedDue
@[simp] theorem oweLampChanges_work : (oweLampChanges n old new s).work = s.work := (MarksOnly.oweLampChanges n old new s).work
@[simp] theorem oweLampChanges_classes : (oweLampChanges n old new s).classes = s.classes := (MarksOnly.oweLampChanges n old new s).classes
@[simp] theorem oweLampChanges_armed : (oweLampChanges n old new s).armed = s.armed := (MarksOnly.oweLampChanges n old new s).armed
@[simp] theorem oweLampChanges_switchDue : (oweLampChanges n old new s).switchDue = s.switchDue := (MarksOnly.oweLampChanges n old new s).switchDue
@[simp] theorem oweLampChanges_bp_link : (oweLampChanges n old new s).bp.link = s.bp.link := (MarksOnly.oweLampChanges n old new s).bp_link
@[simp] theorem oweLampChanges_bp_rxq : (oweLampChanges n old new s).bp.rxq = s.bp.rxq := (MarksOnly.oweLampChanges n old new s).bp_rxq
@[simp] theorem oweLampChanges_bp_nextFill : (oweLampChanges n old new s).bp.nextFill = s.bp.nextFill := (MarksOnly.oweLampChanges n old new s).bp_nextFill
@[simp] theorem oweLampChanges_bp_relay : (oweLampChanges n old new s).bp.relay = s.bp.relay := (MarksOnly.oweLampChanges n old new s).bp_relay
@[simp] theorem oweLampChanges_bp_outage : (oweLampChanges n old new s).bp.outage = s.bp.outage := (MarksOnly.oweLampChanges n old new s).bp_outage

end

section
variable (f : State → State) (s : State)

@[simp] theorem event_clock : (event f s).clock = (f s).clock := (MarksOnly.event f s).clock
@[simp] theorem event_clockSet : (event f s).clockSet = (f s).clockSet := (MarksOnly.event f s).clockSet
@[simp] theorem event_phase : (event f s).phase = (f s).phase := (MarksOnly.event f s).phase
@[simp] theorem event_book : (event f s).book = (f s).book := (MarksOnly.event f s).book
@[simp] theorem event_gens : (event f s).gens = (f s).gens := (MarksOnly.event f s).gens
@[simp] theorem event_waiting : (event f s).waiting = (f s).waiting := (MarksOnly.event f s).waiting
@[simp] theorem event_nextOrder : (event f s).nextOrder = (f s).nextOrder := (MarksOnly.event f s).nextOrder
@[simp] theorem event_policy : (event f s).policy = (f s).policy := (MarksOnly.event f s).policy
@[simp] theorem event_walkups : (event f s).walkups = (f s).walkups := (MarksOnly.event f s).walkups
@[simp] theorem event_active : (event f s).active = (f s).active := (MarksOnly.event f s).active
@[simp] theorem event_inForce : (event f s).inForce = (f s).inForce := (MarksOnly.event f s).inForce
@[simp] theorem event_energised : (event f s).energised = (f s).energised := (MarksOnly.event f s).energised
@[simp] theorem event_queues : (event f s).queues = (f s).queues := (MarksOnly.event f s).queues
@[simp] theorem event_settings : (event f s).settings = (f s).settings := (MarksOnly.event f s).settings
@[simp] theorem event_sp : (event f s).sp = (f s).sp := (MarksOnly.event f s).sp
@[simp] theorem event_unservedDue : (event f s).unservedDue = (f s).unservedDue := (MarksOnly.event f s).unservedDue
@[simp] theorem event_work : (event f s).work = (f s).work := (MarksOnly.event f s).work
@[simp] theorem event_classes : (event f s).classes = (f s).classes := (MarksOnly.event f s).classes
@[simp] theorem event_armed : (event f s).armed = (f s).armed := (MarksOnly.event f s).armed
@[simp] theorem event_switchDue : (event f s).switchDue = (f s).switchDue := (MarksOnly.event f s).switchDue
@[simp] theorem event_bp_link : (event f s).bp.link = (f s).bp.link := (MarksOnly.event f s).bp_link
@[simp] theorem event_bp_rxq : (event f s).bp.rxq = (f s).bp.rxq := (MarksOnly.event f s).bp_rxq
@[simp] theorem event_bp_nextFill : (event f s).bp.nextFill = (f s).bp.nextFill := (MarksOnly.event f s).bp_nextFill
@[simp] theorem event_bp_relay : (event f s).bp.relay = (f s).bp.relay := (MarksOnly.event f s).bp_relay
@[simp] theorem event_bp_outage : (event f s).bp.outage = (f s).bp.outage := (MarksOnly.event f s).bp_outage

end

theorem level_event (f : State → State) (s : State) : (event f s).level = (f s).level := by simp [State.level]

/-! ### Arming a timer -/

section
variable (b : Nat) (p : Purpose) (d : Tick) (s : State)

/-- An arming changes the bay's timer, and calls for an expiry at once when it is due. -/
theorem armTimer_shape : armTimer b p d s =
    { s with bays := (armTimer b p d s).bays, work := (armTimer b p d s).work } := by
  rw [armTimer_eq]
  split <;> rfl

@[simp] theorem armTimer_clock : (armTimer b p d s).clock = s.clock := (congrArg State.clock (armTimer_shape b p d s) :)
@[simp] theorem armTimer_clockSet : (armTimer b p d s).clockSet = s.clockSet := (congrArg State.clockSet (armTimer_shape b p d s) :)
@[simp] theorem armTimer_phase : (armTimer b p d s).phase = s.phase := (congrArg State.phase (armTimer_shape b p d s) :)
@[simp] theorem armTimer_book : (armTimer b p d s).book = s.book := (congrArg State.book (armTimer_shape b p d s) :)
@[simp] theorem armTimer_gens : (armTimer b p d s).gens = s.gens := (congrArg State.gens (armTimer_shape b p d s) :)
@[simp] theorem armTimer_waiting : (armTimer b p d s).waiting = s.waiting := (congrArg State.waiting (armTimer_shape b p d s) :)
@[simp] theorem armTimer_nextOrder : (armTimer b p d s).nextOrder = s.nextOrder := (congrArg State.nextOrder (armTimer_shape b p d s) :)
@[simp] theorem armTimer_policy : (armTimer b p d s).policy = s.policy := (congrArg State.policy (armTimer_shape b p d s) :)
@[simp] theorem armTimer_walkups : (armTimer b p d s).walkups = s.walkups := (congrArg State.walkups (armTimer_shape b p d s) :)
@[simp] theorem armTimer_active : (armTimer b p d s).active = s.active := (congrArg State.active (armTimer_shape b p d s) :)
@[simp] theorem armTimer_inForce : (armTimer b p d s).inForce = s.inForce := (congrArg State.inForce (armTimer_shape b p d s) :)
@[simp] theorem armTimer_energised : (armTimer b p d s).energised = s.energised := (congrArg State.energised (armTimer_shape b p d s) :)
@[simp] theorem armTimer_queues : (armTimer b p d s).queues = s.queues := (congrArg State.queues (armTimer_shape b p d s) :)
@[simp] theorem armTimer_settings : (armTimer b p d s).settings = s.settings := (congrArg State.settings (armTimer_shape b p d s) :)
@[simp] theorem armTimer_sp : (armTimer b p d s).sp = s.sp := (congrArg State.sp (armTimer_shape b p d s) :)
@[simp] theorem armTimer_bp : (armTimer b p d s).bp = s.bp := (congrArg State.bp (armTimer_shape b p d s) :)
@[simp] theorem armTimer_unservedDue : (armTimer b p d s).unservedDue = s.unservedDue := (congrArg State.unservedDue (armTimer_shape b p d s) :)
@[simp] theorem armTimer_classes : (armTimer b p d s).classes = s.classes := (congrArg State.classes (armTimer_shape b p d s) :)
@[simp] theorem armTimer_armed : (armTimer b p d s).armed = s.armed := (congrArg State.armed (armTimer_shape b p d s) :)
@[simp] theorem armTimer_switchDue : (armTimer b p d s).switchDue = s.switchDue := (congrArg State.switchDue (armTimer_shape b p d s) :)

theorem armTimer_work_ahead (h : 0 < diff d s.clock) : (armTimer b p d s).work = s.work := by
  rw [armTimer_ahead b p d s h]; rfl

end

/-! ### Finishing -/

theorem finishStep_of_no_work {s : State} (h : s.work = Work.none) : finishStep s = none := by
  simp [finishStep, h, Work.none]

theorem finish_of_no_work {s : State} (h : s.work = Work.none) (n : Nat) : finish n s = s := by
  cases n with
  | zero => simp [finish, ← h]
  | succ n => simp [finish, finishStep_of_no_work h]

/-- Whatever an event does, nothing of it is left to do once it is taken. -/
theorem work_finish (n : Nat) (s : State) : (finish n s).work = Work.none := by
  induction n generalizing s with
  | zero => rfl
  | succ n ih =>
    unfold finish
    split
    · exact ih _
    · rename_i h
      unfold finishStep at h
      split at h
      · simp at h
      · rename_i hd
        split at h
        · simp at h
        · rename_i hr
          split at h
          · simp at h
          · rename_i hf
            cases hw : s.work with
            | mk due rescan freed => simp_all [Work.none]

theorem work_takeEvent (f : State → State) (s : State) : (takeEvent f s).work = Work.none := work_finish _ _

/-- An event that leaves no work is its effect and the lamps it changes. -/
theorem takeEvent_calm (f : State → State) (s : State) (h : (f s).work = Work.none) : takeEvent f s = event f s :=
  finish_of_no_work (by simpa using h) _


/-! ### The lamps after an event -/

theorem Bay.ext_sansLamp {x y : Bay} (h : x.sansLamp = y.sansLamp) : x = { y with lamp := x.lamp } := by
  cases x; cases y
  simp only [Bay.sansLamp, Bay.mk.injEq] at h
  simp [h]

theorem bay_emptySlot_of_ne (fam : Family) (b c i : Nat) (f : BFill) (o : SlotOutcome) (s : State)
    (hf : f.origin.isFor fam b = true) (hc : c ≠ b) : (emptySlot i f o s).bay c = s.bay c := by
  unfold emptySlot returnToOwed
  cases ho : f.origin with
  | power x m =>
    have hx : x = b := by cases fam <;> simp_all [FillOrigin.isFor]
    simp [hx ▸ hc]
  | access x r =>
    have hx : x = b := by cases fam <;> simp_all [FillOrigin.isFor]
    simp [hx ▸ hc]
  | lamp x =>
    have hx : x = b := by cases fam <;> simp_all [FillOrigin.isFor]
    simp [hx ▸ hc]
  | query x =>
    have hx : x = b := by cases fam <;> simp_all [FillOrigin.isFor]
    simp [hx ▸ hc]
  | relay => simp

/-- A newly set mark's work on the slots reaches the bay it is set for alone (R171). -/
theorem bay_supersede_of_ne (fam : Family) (b c : Nat) (s : State) (hc : c ≠ b) :
    (supersede fam b s).bay c = s.bay c :=
  supersede_induct (fun t => t.bay c = s.bay c) fam b s rfl (fun t i f o hf h => by
    rw [bay_emptySlot_of_ne fam b c i f o t hf hc, h]) fun _ _ _ h => h

@[simp] theorem bay_owePower_of_ne (b c : Nat) (m : PowerMark) (s : State) (hc : c ≠ b) :
    (owePower b m s).bay c = s.bay c := by
  rw [owePower_eq, State.bay_modBay_of_ne _ _ _ _ hc, bay_supersede_of_ne _ _ _ _ hc]

@[simp] theorem bay_oweAccess_of_ne (b c : Nat) (r : AccessReason) (s : State) (hc : c ≠ b) :
    (oweAccess b r s).bay c = s.bay c := by
  rw [oweAccess_eq, State.bay_modBay_of_ne _ _ _ _ hc, bay_supersede_of_ne _ _ _ _ hc]

@[simp] theorem bay_oweLamp_of_ne (b c : Nat) (s : State) (hc : c ≠ b) : (oweLamp b s).bay c = s.bay c := by
  rw [oweLamp_eq, State.bay_modBay_of_ne _ _ _ _ hc, bay_supersede_of_ne _ _ _ _ hc]

@[simp] theorem bay_oweQuery_of_ne (b c : Nat) (s : State) (hc : c ≠ b) : (oweQuery b s).bay c = s.bay c := by
  rw [oweQuery_eq, State.bay_modBay_of_ne _ _ _ _ hc, bay_supersede_of_ne _ _ _ _ hc]

/-- Owing LAMP sets the mark and leaves the rest of the bay record (R12, R171). -/
theorem bay_oweLamp_self (b : Nat) (s : State) (h : b < Config.bays) :
    (oweLamp b s).bay b = { s.bay b with lamp := true } := by
  have h1 := Bay.ext_sansLamp (sansLamp_oweLamp b b s)
  have h2 : ((oweLamp b s).bay b).lamp = true := by rw [oweLamp_eq, State.bay_modBay_self _ _ _ h]
  rw [h1, h2]

/-- A newly set mark's work on the slots leaves every mark but its family's. -/
theorem supersede_proj {α : Type} (p : Bay → α) (fam : Family) (b c : Nat) (s : State)
    (h : ∀ o, o.isFor fam b = true → ∀ t : State, p ((returnToOwed o t).bay c) = p (t.bay c)) :
    p ((supersede fam b s).bay c) = p (s.bay c) :=
  supersede_induct (fun t => p (t.bay c) = p (s.bay c)) fam b s rfl (fun t i f o hf ht => by
    rw [← ht]
    exact h f.origin hf (t.setBSlot i (.empty o))) fun _ _ _ h => h

/-- Owing QUERY sets the mark and leaves the rest of the bay record (R15, R171). -/
theorem bay_oweQuery_self (b : Nat) (s : State) (h : b < Config.bays) :
    (oweQuery b s).bay b = { s.bay b with query := true } := by
  have key := supersede_proj (fun x : Bay => { x with query := true }) .query b b s (by
    intro o ho t
    cases o with
    | query x =>
      show (fun x : Bay => { x with query := true }) ((t.modBay x fun y => { y with query := true }).bay b) = _
      exact t.bay_modBay_proj (fun x : Bay => { x with query := true }) x b
        (fun y => { y with query := true }) (fun _ => rfl)
    | power x m => simp [FillOrigin.isFor] at ho
    | access x r => simp [FillOrigin.isFor] at ho
    | lamp x => simp [FillOrigin.isFor] at ho
    | relay => rfl)
  rw [oweQuery_eq, State.bay_modBay_self _ _ _ h]
  exact key

/-- Owing ACCESS sets the reason and leaves the rest of the bay record (R15, R171). -/
theorem bay_oweAccess_self (b : Nat) (r : AccessReason) (s : State) (h : b < Config.bays) :
    (oweAccess b r s).bay b = { s.bay b with access := some r } := by
  have key := supersede_proj (fun x : Bay => { x with access := some r }) .access b b s (by
    intro o ho t
    cases o with
    | access x q =>
      show (fun x : Bay => { x with access := some r })
        ((t.modBay x fun y => { y with access := some (y.access.getD q) }).bay b) = _
      exact t.bay_modBay_proj (fun x : Bay => { x with access := some r }) x b
        (fun y => { y with access := some (y.access.getD q) }) (fun _ => rfl)
    | power x m => simp [FillOrigin.isFor] at ho
    | query x => simp [FillOrigin.isFor] at ho
    | lamp x => simp [FillOrigin.isFor] at ho
    | relay => rfl)
  rw [oweAccess_eq, State.bay_modBay_self _ _ _ h]
  exact key

theorem oweLampChanges_refl (n : Nat) (l : List Lamp) (s : State) : oweLampChanges n l l s = s := by
  induction l generalizing n with
  | nil => rfl
  | cons o os ih => simpa [oweLampChanges] using ih (n + 1)

/-- An event after which every lamp mode is the same owes nothing (R12). -/
theorem event_of_lamps_eq (f : State → State) (s : State) (h : (f s).lamps = s.lamps) : event f s = f s := by
  unfold event
  rw [h]
  exact oweLampChanges_refl 0 s.lamps (f s)

theorem bay_oweLampChanges_of_lt (n : Nat) (old new : List Lamp) (s : State) (b : Nat) (h : b < n) :
    (oweLampChanges n old new s).bay b = s.bay b := by
  induction old generalizing n new s with
  | nil => rfl
  | cons o os ih =>
    cases new with
    | nil => rfl
    | cons m ms =>
      show (oweLampChanges (n + 1) os ms _).bay b = _
      rw [ih (n + 1) ms _ (by omega)]
      split
      · exact bay_oweLamp_of_ne n b s (by omega)
      · rfl

/-- What the lamp work of an event does to one bay: its LAMP mark is set exactly when its mode has changed. -/
theorem bay_oweLampChanges (n : Nat) (old new : List Lamp) (s : State) (i : Nat) (o m : Lamp)
    (ho : old[i]? = some o) (hm : new[i]? = some m) (hi : n + i < Config.bays) :
    (oweLampChanges n old new s).bay (n + i) =
      if m = o then s.bay (n + i) else { s.bay (n + i) with lamp := true } := by
  induction old generalizing n new s i with
  | nil => simp at ho
  | cons a as ih =>
    cases new with
    | nil => simp at hm
    | cons c cs =>
      show (oweLampChanges (n + 1) as cs _).bay _ = _
      cases i with
      | zero =>
        simp only [List.getElem?_cons_zero, Option.some.injEq] at ho hm
        subst ho hm
        rw [bay_oweLampChanges_of_lt (n + 1) as cs _ (n + 0) (by omega)]
        by_cases h : c = a
        · simp [h]
        · simp [h, bay_oweLamp_self n s (by omega)]
      | succ i =>
        simp only [List.getElem?_cons_succ] at ho hm
        have := ih (n + 1) cs (if c ≠ a then oweLamp n s else s) i ho hm (by omega)
        rw [show n + (i + 1) = n + 1 + i by omega, this]
        have hb : (if c ≠ a then oweLamp n s else s).bay (n + 1 + i) = s.bay (n + 1 + i) := by
          split
          · exact bay_oweLamp_of_ne n _ s (by omega)
          · rfl
        rw [hb]

theorem lamps_getElem? (s : State) (b : Nat) (h : b < Config.bays) : s.lamps[b]? = some (s.lampMode b) := by
  simp [State.lamps, State.lampMode, State.bay, h]

/-- After an event a bay is as the event's effect left it, and LAMP is owed when its mode has changed (R12). -/
theorem bay_event (f : State → State) (s : State) (b : Nat) (h : b < Config.bays) :
    (event f s).bay b =
      if (f s).lampMode b = s.lampMode b then (f s).bay b else { (f s).bay b with lamp := true } := by
  have := bay_oweLampChanges 0 s.lamps (f s).lamps (f s) b _ _ (lamps_getElem? s b h) (lamps_getElem? (f s) b h)
    (by omega)
  simpa [event] using this

/-- The modes of two states agree when every bay's mode does. -/
theorem lamps_eq_of_lampMode {s t : State} (h : ∀ b < Config.bays, t.lampMode b = s.lampMode b) :
    t.lamps = s.lamps := by
  refine List.ext_getElem? fun i => ?_
  by_cases hi : i < Config.bays
  · rw [lamps_getElem? t i hi, lamps_getElem? s i hi, h i hi]
  · simp [State.lamps, hi]

/-- The inputs of a bay's lamp mode (R11): the book, and four fields of the record. -/
theorem lampOf_congr (book : List Reservation) {x y : Bay} (h1 : x.state = y.state) (h2 : x.occupant = y.occupant)
    (h3 : x.holder = y.holder) : lampOf book x = lampOf book y := by
  unfold lampOf
  rw [h1, h2, h3]

/-! ### Events that call for a rescan or a release that finds nothing -/

theorem walkQueue_nil (br : Nat) (s : State) : walkQueue br [] s = s := rfl

/-- A rescan of empty queues changes nothing (R136). -/
theorem rescan_of_empty (s : State) (h : s.QueuesEmpty) : rescan s = s := by
  unfold rescan
  split
  · induction branchNumbers with
    | nil => rfl
    | cons br brs ih => rw [List.foldl_cons, h br, walkQueue_nil, ih]
  · rfl

/-- A release service with nobody waiting changes nothing (R88). -/
theorem releaseService_of_nobody (b : Nat) (s : State) (h : s.NobodyWaits) : releaseService b s = s := by
  unfold releaseService State.waitingFor offerWalkups
  rw [h.1, h.2]
  split
  · simp only [List.find?_nil]
    split <;> rfl
  · rfl

theorem event_id (f : State → State) (s : State) (h : f s = s) : event f s = s := by
  rw [event_of_lamps_eq f s (by rw [h]), h]

theorem finishStep_rescan {s : State} {freed : List Nat} (h : s.work = ⟨[], true, freed⟩) :
    finishStep s = some (event rescan { s with work := ⟨[], false, freed⟩ }) := by
  simp only [finishStep, h, if_true]

theorem finishStep_release {s : State} {b : Nat} {freed : List Nat} (h : s.work = ⟨[], false, b :: freed⟩) :
    finishStep s = some (event (releaseService b) { s with work := ⟨[], false, freed⟩ }) := by
  simp only [finishStep, h, Bool.false_eq_true, if_false]

/-- An event that calls for a rescan of empty queues is its effect and the lamps it changes. -/
theorem takeEvent_rescan (f : State → State) (s : State) (hw : (f s).work = ⟨[], true, []⟩)
    (hq : (f s).QueuesEmpty) : takeEvent f s = { event f s with work := Work.none } := by
  have hr : event rescan { event f s with work := ⟨[], false, []⟩ } = { event f s with work := Work.none } :=
    event_id _ _ (rescan_of_empty _ fun br => by simpa [State.queue] using hq br)
  show finish (4095 + 1) (event f s) = _
  rw [finish, finishStep_rescan (by simpa using hw)]
  simp only [hr]
  exact finish_of_no_work rfl _

/-- An event that frees one bay while nobody waits is its effect and the lamps it changes. -/
theorem takeEvent_release (f : State → State) (s : State) (b : Nat) (hw : (f s).work = ⟨[], false, [b]⟩)
    (hq : (f s).NobodyWaits) : takeEvent f s = { event f s with work := Work.none } := by
  have hr : event (releaseService b) { event f s with work := ⟨[], false, []⟩ }
      = { event f s with work := Work.none } :=
    event_id _ _ (releaseService_of_nobody b _ ⟨by simpa using hq.1, by simpa using hq.2⟩)
  show finish (4095 + 1) (event f s) = _
  rw [finish, finishStep_release (by simpa using hw)]
  simp only [hr]
  exact finish_of_no_work rfl _

end Sys2Proof.Machine
end

