-- ==== Sys2Proof/Laws/Intake.lean ====
section
/-! SUPPORT. What request intake does with the frame at the head of the receive queue (R180, R182), once for every request:
a proof about a request starts from the rule that owns it. -/

namespace Sys2Proof.Machine

variable {s : State} {f : Frame} {rest : List Frame} {kind tag : Nat}

/-- A request that intake takes and whose payload is well formed is handed to its own rule. -/
theorem takeRequest_takes {α : Type} (h : s.Takes f rest kind tag) (parse : List Byte → Option α)
    (own : α → State → Answer) (q : α) (hq : parse f.payload = some q) :
    takeRequest kind parse own s = replyTo f tag (own q (popS s)) := by
  have hopen : s.intakeOpen = true := by
    simp only [State.intakeOpen, h.noReset, Bool.not_false, Bool.and_true, decide_eq_true_eq]
    exact h.room
  have hperm : ¬ (isManagementKind f.kind = true ∧ f.source ≠ (popS s).settings.mgmtNode) := by
    rintro ⟨hm, hs⟩
    exact hs (h.permitted (h.isKind ▸ hm))
  simp only [takeRequest, h.head, hopen, h.isKind, true_and, if_true, answerFrame, h.hasTag]
  rw [← h.isKind] at *
  simp only [hperm, if_false, hq]

/-- A refusal of the owning rule adds its reply and changes nothing else (R180). -/
theorem replyTo_refuse (r : Result) : replyTo f tag (refuse r (popS s)) = s.answer f tag r .none := rfl

/-- An answer that leaves the state adds its reply and changes nothing else. -/
theorem replyTo_same (r : Result) (b : ReplyBody) : replyTo f tag ⟨popS s, r, b⟩ = s.answer f tag r b := rfl

/-- An answer over a state `t` whose receive queue the request has left. -/
theorem replyTo_eq (t : State) (r : Result) (b : ReplyBody) :
    replyTo f tag ⟨t, r, b⟩ = { t with sp := { t.sp with
      replies := t.sp.replies ++ [f.reply t.sp.nextId tag r b], nextId := t.sp.nextId + 1 } } := rfl

/-- Nothing is taken from an empty receive queue. -/
theorem takeRequest_nil {α : Type} (parse : List Byte → Option α) (own : α → State → Answer)
    (h : s.sp.rxq = []) : takeRequest kind parse own s = s := by
  simp [takeRequest, h]

/-- A command of another kind than the head frame's, or one that meets a closed intake, takes nothing. -/
theorem takeRequest_other {α : Type} (parse : List Byte → Option α) (own : α → State → Answer)
    (h : s.sp.rxq = f :: rest) (hn : ¬ (s.intakeOpen = true ∧ f.kind = kind)) :
    takeRequest kind parse own s = s := by
  simp [takeRequest, h, hn]

@[simp] theorem popS_bay (b : Nat) : (popS s).bay b = s.bay b := rfl
@[simp] theorem popS_level : (popS s).level = s.level := rfl
@[simp] theorem popS_find (h : Nat) : (popS s).find h = s.find h := rfl
@[simp] theorem popB_bay (b : Nat) : (popB s).bay b = s.bay b := rfl
@[simp] theorem popB_level : (popB s).level = s.level := rfl
@[simp] theorem popB_find (h : Nat) : (popB s).find h = s.find h := rfl

end Sys2Proof.Machine
end

