-- ==== Sys2Proof/WellFormed.lean ====
section
/-! DEFINITION. Which commands are well formed: the operands lie in the ranges the manual gives them. -/

namespace Sys2Proof

/-- A frame on the line carries 0..31 payload bytes (R158). -/
def WireFrame.wellFormed (w : WireFrame) : Bool := w.payload.length ≤ Config.payload

/-- A bay operand names one of the 128 bays (R1); a frame operand is a frame of the level bus (R158). -/
def Instr.wellFormed : Instr → Bool
  | .settleExpiry b | .graceExpiry b | .plugWaitExpiry b | .inrushExpiry b
  | .windowEndExpiry b | .overstayExpiry b | .silenceLimit b => b < Config.bays
  | .bFrameReceived w | .sFrameReceived w => w.wellFormed
  | .powerOn | .resetInput | .tick | .holdBegin | .unserved | .walkupExpired | .scheduleSwitch
  | .book | .amend | .cancel | .entry | .walkup | .walkupCancel
  | .queryBay | .queryReservation | .queryPort | .queryPart
  | .loadBay | .loadClass | .loadPolicy | .loadPeriod | .commitSchedule | .setParam | .clockSet
  | .bayWithdraw | .bayRestore | .clearSuspect | .checkProof | .bookClear | .portClear | .partReset
  | .postDisplay | .postConfig | .refusedFrameKind
  | .postStatus | .occupied | .vacated | .plugged | .unplugged | .chargeDone | .postFault
  | .otherPostFrame | .receiveError _ _ | .idleGap _ | .joinComplete _ | .recoveryComplete _
  | .bSlotFill | .sSlotFill | .beginFrame _ | .frameSent _ | .transmitError _ _
  | .lostArbitration _ => true

end Sys2Proof
end

