-- ==== Sys2Proof/Laws/PerInstr.lean ====
section
/-! SUPPORT. One lemma per command: what a command takes its request from. -/

namespace Sys2Proof.Laws.Sender

open Sys2Proof Sys2Proof.Machine

/-- A command that takes a request takes one whose kind goes on to step 3 of intake (R180), is none that the bay segment
carries, fits in the header's byte and needs no operand; a command that takes none is no request's. -/
def Statement (i : Instr) : Prop :=
  ∀ k, requestKind i = some k →
    isRequestKind k = true ∧ isBaySegmentKind k = false ∧ k < 256 ∧ i.wellFormed = true

theorem of_kind {i : Instr} {n : Nat} (h : requestKind i = some n)
    (hn : isRequestKind n = true ∧ isBaySegmentKind n = false ∧ n < 256 ∧ i.wellFormed = true) : Statement i := by
  intro k hk
  rw [h, Option.some.injEq] at hk
  exact hk ▸ hn

theorem of_none {i : Instr} (h : requestKind i = none) : Statement i := fun k hk => by rw [h] at hk; cases hk

theorem powerOn : Statement .powerOn := of_none rfl
theorem resetInput : Statement .resetInput := of_none rfl
theorem tick : Statement .tick := of_none rfl
theorem holdBegin : Statement .holdBegin := of_none rfl
theorem unserved : Statement .unserved := of_none rfl
theorem walkupExpired : Statement .walkupExpired := of_none rfl
theorem settleExpiry (bay : Nat) : Statement (.settleExpiry bay) := of_none rfl
theorem graceExpiry (bay : Nat) : Statement (.graceExpiry bay) := of_none rfl
theorem plugWaitExpiry (bay : Nat) : Statement (.plugWaitExpiry bay) := of_none rfl
theorem inrushExpiry (bay : Nat) : Statement (.inrushExpiry bay) := of_none rfl
theorem windowEndExpiry (bay : Nat) : Statement (.windowEndExpiry bay) := of_none rfl
theorem overstayExpiry (bay : Nat) : Statement (.overstayExpiry bay) := of_none rfl
theorem silenceLimit (bay : Nat) : Statement (.silenceLimit bay) := of_none rfl
theorem scheduleSwitch : Statement .scheduleSwitch := of_none rfl
theorem book : Statement .book := of_kind rfl (by decide)
theorem amend : Statement .amend := of_kind rfl (by decide)
theorem cancel : Statement .cancel := of_kind rfl (by decide)
theorem entry : Statement .entry := of_kind rfl (by decide)
theorem walkup : Statement .walkup := of_kind rfl (by decide)
theorem walkupCancel : Statement .walkupCancel := of_kind rfl (by decide)
theorem queryBay : Statement .queryBay := of_kind rfl (by decide)
theorem queryReservation : Statement .queryReservation := of_kind rfl (by decide)
theorem queryPort : Statement .queryPort := of_kind rfl (by decide)
theorem queryPart : Statement .queryPart := of_kind rfl (by decide)
theorem loadBay : Statement .loadBay := of_kind rfl (by decide)
theorem loadClass : Statement .loadClass := of_kind rfl (by decide)
theorem loadPolicy : Statement .loadPolicy := of_kind rfl (by decide)
theorem loadPeriod : Statement .loadPeriod := of_kind rfl (by decide)
theorem commitSchedule : Statement .commitSchedule := of_kind rfl (by decide)
theorem setParam : Statement .setParam := of_kind rfl (by decide)
theorem clockSet : Statement .clockSet := of_kind rfl (by decide)
theorem bayWithdraw : Statement .bayWithdraw := of_kind rfl (by decide)
theorem bayRestore : Statement .bayRestore := of_kind rfl (by decide)
theorem clearSuspect : Statement .clearSuspect := of_kind rfl (by decide)
theorem checkProof : Statement .checkProof := of_kind rfl (by decide)
theorem bookClear : Statement .bookClear := of_kind rfl (by decide)
theorem portClear : Statement .portClear := of_kind rfl (by decide)
theorem partReset : Statement .partReset := of_kind rfl (by decide)
theorem postDisplay : Statement .postDisplay := of_kind rfl (by decide)
theorem postConfig : Statement .postConfig := of_kind rfl (by decide)
theorem refusedFrameKind : Statement .refusedFrameKind := of_none rfl
theorem postStatus : Statement .postStatus := of_none rfl
theorem occupied : Statement .occupied := of_none rfl
theorem vacated : Statement .vacated := of_none rfl
theorem plugged : Statement .plugged := of_none rfl
theorem unplugged : Statement .unplugged := of_none rfl
theorem chargeDone : Statement .chargeDone := of_none rfl
theorem postFault : Statement .postFault := of_none rfl
theorem otherPostFrame : Statement .otherPostFrame := of_none rfl
theorem bFrameReceived (frame : WireFrame) : Statement (.bFrameReceived frame) := of_none rfl
theorem sFrameReceived (frame : WireFrame) : Statement (.sFrameReceived frame) := of_none rfl
theorem receiveError (port : Port) (error : RxError) : Statement (.receiveError port error) := of_none rfl
theorem idleGap (port : Port) : Statement (.idleGap port) := of_none rfl
theorem joinComplete (port : Port) : Statement (.joinComplete port) := of_none rfl
theorem recoveryComplete (port : Port) : Statement (.recoveryComplete port) := of_none rfl
theorem bSlotFill : Statement .bSlotFill := of_none rfl
theorem sSlotFill : Statement .sSlotFill := of_none rfl
theorem beginFrame (port : Port) : Statement (.beginFrame port) := of_none rfl
theorem frameSent (port : Port) : Statement (.frameSent port) := of_none rfl
theorem transmitError (port : Port) (error : TxError) : Statement (.transmitError port error) := of_none rfl
theorem lostArbitration (port : Port) : Statement (.lostArbitration port) := of_none rfl

end Sys2Proof.Laws.Sender
end

