-- ==== Sys2Proof/Laws/Ports.lean ====
section
/-! SUPPORT. The link engine when nothing of note happens, and the share unit when the floors fit: what the judgements and
the pauses leave alone (R141, R162, R165). -/

namespace Sys2Proof.Machine

/-! ### The link engine -/

@[simp] theorem link_setLink_self (p : Port) (l : Link) (s : State) : (setLink p l s).link p = l := by
  cases p <;> rfl

theorem setLink_setLink (p : Port) (k l : Link) (s : State) : setLink p l (setLink p k s) = setLink p l s := by
  cases p <;> rfl

theorem setLink_link (p : Port) (s : State) : setLink p (s.link p) s = s := by cases p <;> rfl

/-- Counts that cross no 64 bring no WARNING (R165). -/
theorem setCounts_calm {p : Port} {l : Link} {s : State} (h : crosses (s.link p) l = false) :
    setCounts p l s = setLink p l s := by
  simp [setCounts, h]

/-- An ACTIVE port with both counts below 120 stays as it is (R162). -/
theorem judgeLink_calm {p : Port} {s : State} (h : (s.link p).state = .active) (ht : (s.link p).tx < 120)
    (hr : (s.link p).rx < 120) : judgeLink p s = s := by
  have h1 : ¬ 224 ≤ (s.link p).tx := by omega
  have h2 : (s.link p).cautious = false := by simp [Link.cautious]; omega
  simp [judgeLink, h, h1, h2]

/-- A port that neither sends nor receives is judged by no count (R162). -/
theorem judgeLink_idle {p : Port} {s : State}
    (h : (s.link p).state = .joining ∨ (s.link p).state = .off ∨ (s.link p).state = .recovering) :
    judgeLink p s = s := by
  rcases h with h | h | h <;> simp [judgeLink, h]

/-- A full reset forgets everything but the commands that wait outside the part (R195). -/
theorem fullReset_eq (s : State) : fullReset s = { State.reset with pending := s.pending } := rfl

/-! ### The share unit -/

/-- No pause is taken on a branch whose floors fit (R141). -/
theorem pauseBranch_fits {s : State} {br : Nat} (h : s.floorSum br ≤ s.branchBudget br) (n : Nat) :
    pauseBranch br n s = s := by
  cases n with
  | zero => rfl
  | succ n => simp [pauseBranch, Nat.not_lt.mpr h]

/-- No pause is taken on a level whose floors fit (R141). -/
theorem pauseLevel_fits {s : State} (h : s.levelFloorSum ≤ s.levelBudget) (n : Nat) : pauseLevel n s = s := by
  cases n with
  | zero => rfl
  | succ n => simp [pauseLevel, Nat.not_lt.mpr h]

/-- The pauses of the eight branches, when every floor sum fits (R141). -/
theorem pauses_fit {s : State} (h : ∀ br < 8, s.floorSum br ≤ s.branchBudget br) :
    branchNumbers.foldl (fun s br => pauseBranch br s.energised.length s) s = s := by
  have key : ∀ l : List Nat, (∀ br ∈ l, br < 8) →
      l.foldl (fun s br => pauseBranch br s.energised.length s) s = s := by
    intro l
    induction l with
    | nil => intro _; rfl
    | cons br l ih =>
      intro hl
      rw [List.foldl_cons, pauseBranch_fits (h br (hl br (by simp)))]
      exact ih fun x hx => hl x (by simp [hx])
  exact key _ fun br hb => List.mem_range.mp hb

/-- No position is fixed when every notice is older than the recompute (R141 step 5). -/
theorem fixPositions_old {s : State} {first : Nat} (h : ∀ n ∈ s.sp.notices, n.id < first) :
    fixPositions first s = s := by
  have hm : s.sp.notices.map (fixPosition s first) = s.sp.notices := by
    refine (List.map_congr_left fun n hn => ?_).trans (List.map_id _)
    have hlt : ¬ first ≤ n.id := Nat.not_le.mpr (h n hn)
    unfold fixPosition
    split
    · simp [hlt]
    · rfl
  unfold fixPositions
  rw [hm]

end Sys2Proof.Machine
end

