-- ==== Sys2Proof/Tests/Slice0.lean ====
section
/-! SUPPORT. Tests: the smoke test of well-formedness, the worked examples of the manual, and for every statement of
Certificates/Slice0/Obligations.lean a concrete state and operands that meet its hypotheses, clause by clause. -/

namespace Sys2Proof.Tests

open Sys2Proof Sys2Proof.Machine

/- The kernel evaluates these theorems one after another: elaborated side by side, each that waits would hold a thread. -/
set_option Elab.async false

/-! ### Well-formedness -/

theorem test_bay_128_is_no_bay : (Instr.settleExpiry 128).wellFormed = false := by decide
theorem test_silence_of_bay_128 : (Instr.silenceLimit 128).wellFormed = false := by decide
theorem test_bay_127_is_a_bay : (Instr.overstayExpiry 127).wellFormed = true := by decide
theorem test_payload_of_32_bytes :
    (Instr.bFrameReceived ⟨0, List.replicate 32 0, 0⟩).wellFormed = false := by decide
theorem test_payload_of_31_bytes :
    (Instr.sFrameReceived ⟨0, List.replicate 31 0, 0⟩).wellFormed = true := by decide
theorem test_no_word_spells_a_command : decodeTableWord 16 0x1234 = none := by decide
theorem test_fault_beyond_the_bays : exec (.graceExpiry 128) State.reset = .fault .noSuchBay := by rfl

/-! ### A small level -/

/-- Class 1 of the tests. -/
def classA : ClassEntry where
  draw := 50
  floor := 10
  lead := 6
  grace := 12
  turnover := 3
  plugWait := 18
  overstay := 6
  walkupReserve := 0
  walkupMin := 30
  inrush := 1
  overdrawTol := 10
  early := 60
  settle := 2

/-- A bay of class 1 on branch 0 with the post `n`. -/
def bayA (n : Nat) (st : BayState) : Bay := { Bay.blank with map := some ⟨n, 0, 1, none, none⟩, state := st }

def periodA : Period := ⟨0, 200, Vector.replicate _ 100⟩

/-- Bays 0 and 1 are FREE, class 1 is valid, one period is in force, both ports are ACTIVE and the clock is SET. -/
def base : State := { State.reset with
  clock := 1000
  clockSet := true
  phase := 1000
  classes := (Vector.replicate _ none).setIfInBounds 0 (some classA)
  bays := ((Vector.replicate _ Bay.blank).setIfInBounds 0 (bayA 1 .free)).setIfInBounds 1 (bayA 2 .free)
  active := (Vector.replicate _ none).setIfInBounds 0 (some periodA)
  inForce := some periodA
  bp := { BPort.reset with link := { Link.reset with state := .active } }
  sp := { SPort.reset with link := { Link.reset with state := .active } } }

/-- The record of handle 3 and token 77. -/
def recA (st : ResState) (bay : Option Nat) (start : Nat) : Reservation where
  handle := 3
  token := 77
  cls := 1
  bay := bay
  tier := .standard
  start := BitVec.ofNat 20 start
  length := 60
  holdBegin := BitVec.ofNat 20 (start - 6)
  endTick := BitVec.ofNat 20 (start + 60)
  intervalEnd := BitVec.ofNat 20 (start + 63)
  order := 0
  state := st
  arrived := false
  overstay := false
  interrupted := false
  reseats := 0
  captures := Captures.none
  energy := none
  sessions := 0

/-- Bay 0 in a state, with a timer and the holder 3, whose record is in the book. -/
def onBay0 (st : BayState) (t : Timer) (r : Reservation) : State :=
  { base.setBay 0 { bayA 1 st with holder := some 3, timer := t } with book := [r], nextOrder := 1 }

/-- Bay 0 in a state with a timer and nobody on it. -/
def emptyBay0 (st : BayState) (t : Timer) : State := base.setBay 0 { bayA 1 st with timer := t }

/-- Bytes with the tag 7 in front. -/
def tagged (xs : List Nat) : List Byte := [0, 7] ++ xs.map (BitVec.ofNat 8)

/-- The request frame of a kind, from the management node. -/
def ask (k : Nat) (xs : List Nat) : Frame := ⟨4, 1, k, 240, tagged xs⟩

/-- The state with that frame in the S-port receive queue. -/
def State.asks (s : State) (k : Nat) (xs : List Nat) : State := { s with sp := { s.sp with rxq := [ask k xs] } }

theorem takes (s : State) (k : Nat) (xs : List Nat) (h : s.sp.replies = []) (hr : s.sp.resetPending = false)
    (hm : s.settings.mgmtNode = 1) : (State.asks s k xs).Takes (ask k xs) [] k 7 where
  head := rfl
  room := by show s.sp.replies.length < 4; simp [h]
  noReset := hr
  isKind := rfl
  hasTag := by
    have h2 : ¬ (tagged xs).length < 2 := by simp [tagged]
    have h7 : field (tagged xs) 0 2 = 7 := by simp [tagged, field, beNat]
    show tagOf (tagged xs) = some 7
    rw [tagOf, if_neg h2, h7]
  permitted _ := hm.symm

/-- The frame of bay 0's post. -/
def said (k : Nat) (xs : List Nat) : Frame := ⟨5, 1, k, 0, xs.map (BitVec.ofNat 8)⟩

def State.told (s : State) (k : Nat) (xs : List Nat) : State := { s with bp := { s.bp with rxq := [said k xs] } }

theorem hears (s : State) (k : Nat) (xs : List Nat) (h : s.bayOfPost 1 = some 0) :
    (State.told s k xs).Hears (said k xs) [] 0 := ⟨rfl, h⟩

theorem queuesEmpty (s : State) (h : s.queues.toList.all List.isEmpty = true) : s.QueuesEmpty := by
  intro br
  unfold State.queue
  cases hq : s.queues[br]? with
  | none => rfl
  | some q =>
    have hm : q ∈ s.queues.toList := by
      obtain ⟨hb, rfl⟩ := Vector.getElem?_eq_some_iff.mp hq
      simp
    simpa using List.all_eq_true.mp h q hm

/-! ### Worked examples of the manual -/

/-- 2.3, the difference across the wrap, both ways. -/
theorem test_diff_across_the_wrap :
    diff (700 : Tick) 1048000 = 1276 ∧ diff (1048000 : Tick) 700 = -1276 ∧ minusTicks (20 : Tick) 30 = 1048566 := by
  decide

/-- 2.3, two intervals that meet across the wrap. -/
theorem test_intervals_meet_across_the_wrap : intersects 1048500 100 40 400 = true := by decide

/-- R24: the phase goes from 8,639 to 0. -/
theorem test_phase_wraps : nextPhase 8639 = 0 := by decide

/-- 2.6, the CLOCK_SET of frame 1: a shift of 8 is cut to 6, and 200,008 goes to 200,014. -/
theorem test_slew_is_cut : clampShift (diff 200016 200008) = 6 ∧ shiftTick 200008 6 = 200014 := by decide

/-- A record that is present over an interval. -/
def present (a b : Nat) : Reservation :=
  { recA .booked none 0 with holdBegin := BitVec.ofNat 20 a, intervalEnd := BitVec.ofNat 20 b }

/-- 3.7, the class sweep of class 3. -/
theorem test_class_sweep :
    peak [present 900 1100, present 950 1300, present 1050 1500, present 1200 1420, present 1250 1350] 950 1000 1400
      = 4 := by decide +kernel

/-- 3.7, the sweep across the clock wrap. -/
theorem test_sweep_across_the_wrap :
    peak [present 1048500 40, present 1048550 200, present 1048570 60, present 20 300] 1048400 1048540 94 = 4 := by
  decide +kernel

/-- 4.4, the flags at the limits: the pairs whose signed and unsigned answers differ. -/
theorem test_flags_at_the_limits :
    cmpD 65416 60 = 65356 ∧ Condition.holds .lt 65416 60 = true ∧ Condition.holds .ult 65416 60 = false
      ∧ cmpD 32767 65535 = 32768 ∧ cmpV 32767 65535 = true ∧ Condition.holds .lt 32767 65535 = false
      ∧ cmpD 32768 1 = 32767 ∧ Condition.holds .lt 32768 1 = true
      ∧ cmpD 32000 64536 = 33000 ∧ Condition.holds .ge 32000 64536 = true := by decide

/-- Chapter 7, the sessions of branch 2 before and after the fifth start, and the level stage. -/
theorem test_shares_of_a_branch :
    divide 60 [(15, 50), (6, 22), (6, 22), (4, 7)] = [30, 13, 12, 5]
      ∧ divide 60 [(15, 50), (6, 22), (6, 22), (4, 7), (4, 7)] = [27, 12, 11, 5, 5]
      ∧ divide 100 [(31, 60), (40, 70)] = [46, 54] := by decide

/-- The BOOK of chapter 11's example on the wire. -/
def bookFrame : Frame :=
  ⟨4, 7, 0x40, 240, [0, 1, 0, 0, 0, 0x29, 2, 0xFF, 0, 0xEB, 0x8C, 0, 0x78, 0]⟩

theorem test_book_on_the_wire :
    bookFrame.header = 0x80EE40F0#32 ∧ parseBook bookFrame.payload = some ⟨41, 2, none, 60300, 120, 0⟩
      ∧ tagOf bookFrame.payload = some 1 := by decide

/-- Chapter 11: a CLOSED body of 36 bytes goes in two segments. -/
theorem test_closed_has_two_segments :
    segmentCount 36 = 2 ∧ (segmentBytes (List.replicate 36 0) 1).length = 10 := by decide

/-- Chapter 3, frame 1 of the booking session: bays 10, 11 and 12 of class 2, clock 60,000. -/
def bookingSession : State :=
  let two : Bay := { bayA 1 .free with map := some ⟨11, 0, 2, none, none⟩ }
  { base with
    clock := 60000
    classes := (Vector.replicate _ none).setIfInBounds 1
      (some { classA with lead := 30, grace := 60, turnover := 6, walkupReserve := 1 })
    bays := ((Vector.replicate _ Bay.blank).setIfInBounds 10 two).setIfInBounds 11
      { two with map := some ⟨12, 0, 2, none, none⟩ } |>.setIfInBounds 12 { two with map := some ⟨13, 0, 2, none, none⟩ }
    sp := { base.sp with rxq := [bookFrame] } }

theorem test_book_replies_as_in_chapter_3 :
    (match exec .book bookingSession with
      | .next t => t.sp.replies.map fun r => (r.dest, r.tag, r.result, r.body.bytes)
      | _ => []) = [(7, 1, .ok, [0, 0, 0, 120, 0, 0, 0xEB, 0x6E, 0, 0xFF])] := by decide +kernel

/-! ### Witnesses: the block, the invariants and the shared arithmetic -/

theorem witness_EachTableHasItsOwnCommands :
    Instr.holdBegin ≠ .powerOn ∧ Instr.holdBegin ≠ .resetInput ∧ base.sp.resetPending = false
      ∧ exec .holdBegin base = .next (takeHold base) := ⟨by decide, by decide, by decide, rfl⟩

/-- The small level with a command waiting. -/
def waiting (c : Instr) (s : State) : State := { s with pending := [c] }

theorem witness_StepRunsTheFrontCommand : base.pending = [] ∧ step (waiting .powerOn base) = exec .powerOn base :=
  ⟨rfl, rfl⟩

theorem witness_FullResetReturnsEveryBlock :
    (Instr.powerOn = .powerOn ∨ Instr.powerOn = .resetInput)
      ∧ (Instr.resetInput = .powerOn ∨ Instr.resetInput = .resetInput) := by decide

/-- The limits of the two values. -/
theorem witness_ConditionsAreTheTrueComparisons : (65535 : Nat) < 65536 ∧ (0 : Nat) < 65536 := by decide

theorem witness_SegmentsCarryTheWholeBody :
    let r : Reply := ⟨0, 7, 65535, 255, .ok, .none, 0⟩
    r.tag < 65536 ∧ r.kind < 256 ∧ 15 < 16 ∧ (0 + 1 = segmentCount r.body.bytes.length) := by decide

theorem base_ports : (waiting .holdBegin base).PortsInv where
  bLink := ⟨by decide, by decide, by decide⟩
  sLink := ⟨by decide, by decide, by decide⟩
  bQueue := by decide
  sQueue := by decide
  replies := by decide
  notices := by decide
  relay := by decide
  replyIds := by decide
  noticeIds := by decide

theorem ports (s : State) (hb : s.bp = base.bp) (hs : s.sp = base.sp) : s.PortsInv where
  bLink := by rw [hb]; exact base_ports.bLink
  sLink := by rw [hs]; exact base_ports.sLink
  bQueue := by rw [hb]; exact base_ports.bQueue
  sQueue := by rw [hs]; exact base_ports.sQueue
  replies := by rw [hs]; exact base_ports.replies
  notices := by rw [hs]; exact base_ports.notices
  relay := by rw [hb]; exact base_ports.relay
  replyIds := by rw [hs]; exact base_ports.replyIds
  noticeIds := by rw [hs]; exact base_ports.noticeIds

theorem witness_StepKeepsThePorts :
    (waiting .holdBegin base).PortsInv ∧ step (waiting .holdBegin base) = .next (takeHold base) := ⟨base_ports, rfl⟩

theorem witness_StepKeepsTheTables :
    (waiting (.idleGap .b) State.reset).TablesInv
      ∧ step (waiting (.idleGap .b) State.reset) = .next (countGap .b State.reset) := by
  refine ⟨⟨⟨by decide, by decide, by decide, by decide, by decide, by decide, by decide, by decide, by decide,
    by decide⟩, by decide, ?_⟩, rfl⟩
  intro c e h
  cases c with
  | zero => cases h
  | succ c =>
    have h' : ((Vector.replicate Config.classes (none : Option ClassEntry))[c]?).getD none = some e := h
    rw [Vector.getElem?_replicate] at h'
    split at h' <;> cases h'

theorem witness_StepKeepsTheBook :
    (waiting .tick (onBay0 .held .none (recA .held (some 0) 1000))).LevelInv
      ∧ step (waiting .tick (onBay0 .held .none (recA .held (some 0) 1000)))
        = .next (tick (onBay0 .held .none (recA .held (some 0) 1000))) :=
  ⟨⟨by decide, by decide, by decide⟩, rfl⟩

/-- Every entry that holds no condition, and one that does, at the boundary of its condition. -/
theorem witness_PolicyWalkTakesTheFirstEntryThatHolds :
    let q : PolicyRequest := ⟨1, 2, 0, 1, 0, 77, 0, 65535, 1000⟩
    let pre : List (Option PolicyEntry) := [none, some ⟨.length, .ugt, 60, .refuse, 1⟩]
    (∀ e, some e ∈ pre → e.condition.holds (q.value 60 0 e.field) e.constant = false)
      ∧ Condition.holds .uge (q.value 60 0 .length) 60 = true := by
  refine ⟨?_, by decide⟩
  intro e he
  simp only [List.mem_cons, Option.some.injEq, List.not_mem_nil, or_false, reduceCtorEq, false_or] at he
  subst he
  decide

/-- Floors that take the whole total, and caps that just fit it. -/
theorem witness_DivideHandsOutTheTotal :
    (∀ x ∈ [(6, 32), (10, 10)], x.1 ≤ x.2) ∧ (([(6, 32), (10, 10)] : List (Nat × Nat)).map Prod.fst).sum ≤ 16
      ∧ (([(6, 32), (10, 10)] : List (Nat × Nat)).map Prod.snd).sum ≤ 42
      ∧ 41 ≤ (([(6, 32), (10, 10)] : List (Nat × Nat)).map Prod.snd).sum := by decide

theorem witness_PeakIsTheGreatestCount :
    (∀ r ∈ [recA .booked none 1000], 0 < diff r.intervalEnd r.holdBegin)
      ∧ isBefore (1000 : Tick) 1001 = true ∧ inInterval (1000 : Tick) 1000 1001 = true
      ∧ atOrAfter (1001 : Tick) 1001 = true := by decide

theorem witness_SelectionTakesTheTightestBay :
    base.select (recA .booked none 1000) none = some 0
      ∧ (emptyBay0 .held .none).select (recA .booked none 1000) (some 1) = none := by decide +kernel

theorem witness_CeilingsStayWithinTheBudgets :
    let s : State := { base with energised := [⟨0, 0, 50, 10, 995⟩, ⟨1, 0, 50, 10, 996⟩] }
    s.FloorsFit ∧ ∀ e ∈ s.energised, e.floor ≤ e.draw ∧ e.branch < 8 := by
  refine ⟨⟨?_, ?_⟩, ?_⟩ <;> decide +kernel

/-! ### Witnesses: the level clock and the expiries -/

theorem witness_TickAdvancesTheClock :
    base.NothingDue ∧ base.work = Work.none
      ∧ (base.armed = true → ∀ p ∈ periodsOf base.active, p.start ≠ (base.phase + 1) % 8640)
      ∧ (periodAt base.active ((base.phase + 1) % 8640)).map Period.start = base.inForce.map Period.start := by
  refine ⟨?_, by decide, by decide, by decide +kernel⟩
  show catchStep base = none
  have h : (catchStep base).isNone = true := by decide +kernel
  simpa using h

/-- The hold-begin falls on this very tick; the grace deadline on the next. -/
theorem witness_HoldBegins :
    let r := recA .booked (some 0) 1006
    let q := recA .booked none 989
    let s : State := { base with book := [r], nextOrder := 1 }
    let u : State := { emptyBay0 .held .none with
      book := [q], bays := ((emptyBay0 .held .none).setBay 1 (bayA 2 .held)).bays }
    s.LevelInv ∧ s.book.find? (fun x => decide (x.state = .booked) && decide (0 ≤ diff s.clock x.holdBegin)) = some r
      ∧ diff s.clock r.holdBegin = 0 ∧ r.bay = some 0 ∧ (s.bay 0).state = .free
      ∧ 0 < diff (plusTicks r.start (s.classOf r.cls).grace) s.clock
      ∧ u.LevelInv ∧ u.book.find? (fun x => decide (x.state = .booked) && decide (0 ≤ diff u.clock x.holdBegin)) = some q
      ∧ diff (plusTicks q.start (u.classOf q.cls).grace) u.clock = 1 ∧ q.bay = none ∧ u.candidates q none = [] := by
  refine ⟨⟨?_, ?_, ?_⟩, ?_, ?_, ?_, ?_, ?_, ⟨?_, ?_, ?_⟩, ?_, ?_, ?_, ?_⟩ <;> decide +kernel

theorem witness_GraceDeadlinesCloseTheRecord :
    let w := recA .waitingBay none 988
    let s : State := { base with book := [w], waiting := [3], unservedDue := [3] }
    let g := recA .held (some 0) 988
    let t := onBay0 .held (.running 1000 .grace) g
    s.work = Work.none ∧ s.dueUnserved = some 3 ∧ s.find 3 = some w
      ∧ t.Expires 0 .grace ∧ t.work = Work.none ∧ t.NobodyWaits ∧ (t.bay 0).state = .held
      ∧ (t.bay 0).holder = some 3 ∧ t.find 3 = some g ∧ g.state = .held ∧ g.bay = some 0 := by
  refine ⟨?_, ?_, ?_, ⟨?_, ?_, ?_⟩, ?_, ⟨?_, ?_⟩, ?_, ?_, ?_, ?_, ?_⟩ <;> decide +kernel

/-- A status of a vacant or an occupied bay. -/
def status0 (occ plug : Bool) : Status := ⟨occ, plug, .idle, 0, 0, 0⟩

/-- Bay 0 CLEARING at its SETTLE deadline with a status. -/
def settling (st : Option Status) : State :=
  base.setBay 0 { bayA 1 .clearing with timer := .running 1000 .settle, status := st }

theorem witness_SettleJudgesTheBay :
    (settling none).Expires 0 .settle ∧ (settling none).work = Work.none
      ∧ ((settling none).bayClass 0).inRange = true ∧ ((settling none).bay 0).state = .clearing
      ∧ ((settling none).bay 0).status = none
      ∧ (settling (some (status0 false false))).Expires 0 .settle
      ∧ ((settling (some (status0 false false))).bay 0).status = some (status0 false false)
      ∧ (settling (some (status0 false false))).NobodyWaits
      ∧ (settling (some (status0 true false))).Expires 0 .settle
      ∧ ((settling (some (status0 true false))).bay 0).status = some (status0 true false) := by
  refine ⟨⟨?_, ?_, ?_⟩, ?_, ?_, ?_, ?_, ⟨?_, ?_, ?_⟩, ?_, ⟨?_, ?_⟩, ⟨?_, ?_, ?_⟩, ?_⟩ <;> decide +kernel

theorem witness_PlugWaitAndInrushEnd :
    let r := recA .seated (some 0) 941
    let s := onBay0 .occupied (.running 1000 .plugWait) r
    let e := emptyBay0 .occupied (.running 1000 .plugWait)
    let c := recA .charging (some 0) 941
    let i := onBay0 .starting (.running 1000 .inrush) c
    s.Expires 0 .plugWait ∧ s.work = Work.none ∧ (s.bay 0).holder = some 3 ∧ s.find 3 = some r
      ∧ diff r.endTick s.clock = 1
      ∧ e.Expires 0 .plugWait ∧ e.work = Work.none ∧ (e.bay 0).holder = none
      ∧ i.Expires 0 .inrush ∧ i.work = Work.none ∧ i.QueuesEmpty ∧ (i.bay 0).state = .starting
      ∧ (i.bay 0).holder = some 3 ∧ i.find 3 = some c ∧ diff c.endTick i.clock = 1 := by
  refine ⟨⟨?_, ?_, ?_⟩, ?_, ?_, ?_, ?_, ⟨?_, ?_, ?_⟩, ?_, ?_, ⟨?_, ?_, ?_⟩, ?_, queuesEmpty _ ?_, ?_, ?_, ?_, ?_⟩
    <;> decide +kernel

theorem witness_WindowEndAndOverstay :
    let r := recA .parked (some 0) 940
    let s := onBay0 .parked (.running 1000 .windowEnd) r
    let q := recA .seated (some 0) 940
    let o := onBay0 .occupied (.running 1000 .windowEnd) q
    let v := onBay0 .parked (.running 1000 .overstay) r
    let f := onBay0 .parked (.running 1000 .overstay) { r with overstay := true }
    s.Expires 0 .windowEnd ∧ s.work = Work.none ∧ (s.bay 0).state = .parked ∧ (s.bay 0).holder = some 3
      ∧ s.find 3 = some r ∧ 0 < diff (plusTicks r.endTick (s.bayClass 0).overstay) s.clock
      ∧ o.Expires 0 .windowEnd ∧ (o.bay 0).state = .occupied ∧ (o.bay 0).holder = some 3 ∧ o.find 3 = some q
      ∧ v.Expires 0 .overstay ∧ v.work = Work.none ∧ (v.bay 0).state = .parked
      ∧ (v.bay 0).occupant ≠ some .foreign ∧ (v.bay 0).holder = some 3 ∧ v.find 3 = some r ∧ r.overstay = false
      ∧ f.Expires 0 .overstay ∧ f.find 3 = some { r with overstay := true } := by
  refine ⟨⟨?_, ?_, ?_⟩, ?_, ?_, ?_, ?_, ?_, ⟨?_, ?_, ?_⟩, ?_, ?_, ?_, ⟨?_, ?_, ?_⟩, ?_, ?_, ?_, ?_, ?_, ?_,
    ⟨?_, ?_, ?_⟩, ?_⟩ <;> decide +kernel

theorem witness_SuspectEntry :
    let s := base.setBay 0 { bayA 1 .free with silenceDue := true }
    let p := State.told (onBay0 .parked .none (recA .parked (some 0) 990)) 2 [6, 0, 0, 0, 0]
    let u := State.told (emptyBay0 .suspect .none) 2 [6, 0, 0, 0, 0]
    s.dueSilence = some 0 ∧ s.work = Work.none ∧ (s.bay 0).state = .free
      ∧ p.Hears (said 2 [6, 0, 0, 0, 0]) [] 0 ∧ readPostFrame (said 2 [6, 0, 0, 0, 0]) = .event .postFault
      ∧ p.work = Work.none ∧ (p.bay 0).state = .parked
      ∧ u.Hears (said 2 [6, 0, 0, 0, 0]) [] 0 ∧ (u.bay 0).state = .suspect := by
  refine ⟨?_, ?_, ?_, hears _ _ _ ?_, ?_, ?_, ?_, hears _ _ _ ?_, ?_⟩ <;> decide +kernel

/-! ### Witnesses: the frames, the replies and the notices -/

theorem witness_FramesSurviveTheLine :
    Frame.inRange ⟨7, 255, 255, 255, List.replicate 31 255⟩ = true ∧ Frame.inRange ⟨0, 0, 1, 0, []⟩ = true
      ∧ (0 : BitVec 16) ≠ (Frame.wire ⟨7, 255, 255, 255, List.replicate 31 255⟩).check := by decide +kernel

/-- A queue with `n` notices. -/
def noticesPort (n : Nat) : SPort :=
  { SPort.reset with
    notices := (List.range n).map fun i => ⟨i, 0, false, 0, false, .bookCleared i⟩
    nextId := n
    slots := #v[.pending ⟨.notice 0, ⟨4, 240, 0x81, 255, []⟩, 1⟩, .empty .none] }

/-- 32 notices, none in a slot, of which the head has been begun and then broken off. -/
def begunPort : SPort :=
  { noticesPort 32 with
    notices := (noticesPort 32).notices.map fun n => if n.id = 0 then { n with begun := true } else n
    slots := #v[.empty .failed, .empty .none] }

/-- 31 notices leave a place; of 32, the head is in a slot, or begun, and the next is lost. -/
theorem witness_AFullNoticeQueueLosesItsOldest :
    (noticesPort 31).notices.length < 32 ∧ (noticesPort 32).notices.length = 32 ∧ begunPort.notices.length = 32
      ∧ (∃ x y rest, (noticesPort 32).notices = [x] ++ y :: rest
          ∧ (noticesPort 32).slots[0]? = some (.pending ⟨.notice x.id, ⟨4, 240, 0x81, 255, []⟩, 1⟩)
          ∧ y.begun = false ∧ y.id ≠ x.id ∧ (noticesPort 32).slots[1]? = some (.empty .none))
      ∧ (∃ x y rest, begunPort.notices = [x] ++ y :: rest ∧ x.begun = true ∧ x.sent = 0 ∧ y.begun = false
          ∧ begunPort.slots = #v[.empty .failed, .empty .none]) :=
  ⟨by decide, by decide, by decide +kernel,
    ⟨⟨0, 0, false, 0, false, .bookCleared 0⟩, ⟨1, 0, false, 0, false, .bookCleared 1⟩,
      (noticesPort 32).notices.drop 2, by decide +kernel, by decide, by decide, by decide, by decide⟩,
    ⟨⟨0, 0, false, 0, true, .bookCleared 0⟩, ⟨1, 0, false, 0, false, .bookCleared 1⟩,
      begunPort.notices.drop 2, by decide +kernel, rfl, rfl, rfl, rfl⟩⟩

/-- A POWER frame of bay 0 is PENDING in slot 5. -/
def powerPending : State :=
  base.setBSlot 5 (.pending ⟨⟨2, 0, 0x11, 1, [0]⟩, .power 0 .energise, 1, false⟩)

theorem witness_PowerMarksMerge :
    (∀ i, match base.bSlot i with | .pending f => f.origin.isFor .power 0 = false | _ => True)
      ∧ powerPending.bSlot 5 = .pending ⟨⟨2, 0, 0x11, 1, [0]⟩, .power 0 .energise, 1, false⟩
      ∧ ∀ j g, j ≠ 5 → powerPending.bSlot j = .pending g → g.origin.isFor .power 0 = false := by
  have hb : ∀ i, base.bSlot i = .empty .none := by
    intro i
    show ((Vector.replicate 6 (BSlot.empty .none))[i]?).getD _ = _
    rw [Vector.getElem?_replicate]
    split <;> rfl
  refine ⟨fun i => by rw [hb i]; trivial, by decide, ?_⟩
  intro j g hj h
  have : powerPending.bSlot j = base.bSlot j := by
    show ((base.bp.slots.setIfInBounds 5 _)[j]?).getD _ = ((base.bp.slots)[j]?).getD _
    rw [Vector.getElem?_setIfInBounds_ne (fun h => hj h.symm)]
  rw [this, hb j] at h
  cases h

/-! ### Witnesses: request intake and the book -/

theorem witness_EveryRequestGetsOneReply :
    requestKind .queryPart = some 0x49 ∧ (State.asks base 0x49 []).sp.rxq = [ask 0x49 []]
      ∧ (State.asks base 0x49 []).sp.replies.length < 4 ∧ (State.asks base 0x49 []).sp.resetPending = false
      ∧ (ask 0x49 []).kind = 0x49 ∧ base.sp.rxq = [] := by decide

theorem witness_RefusalsChangeNothingElse :
    ∃ t r, requestKind .queryBay = some 0x46 ∧ exec .queryBay (State.asks base 0x46 [128]) = .next t
      ∧ t.sp.replies.getLast? = some r ∧ r.result = .badField :=
  ⟨_, (ask 0x46 [128]).reply 0 7 .badField .none, rfl, rfl, by decide +kernel, rfl⟩

theorem witness_OtherFramesAreTurnedAway :
    isRequestKind 0x15 = false ∧ isRequestKind 0x22 = false ∧ tagOf [0] = none ∧ tagOf (tagged []) = some 7
      ∧ (State.told base 3 []).Hears (said 3 []) [] 0 ∧ readPostFrame (said 3 []) = .other
      ∧ readPostFrame (said 2 [1, 0, 0, 0]) = .other := by
  refine ⟨by decide, by decide, by decide, by decide, hears _ _ _ ?_, ?_, ?_⟩ <;> decide +kernel

/-- A BOOK payload. -/
def bookBytes (token start : Nat) : List Nat :=
  [0, 0, 0, token, 1, 255, start / 65536, start / 256 % 256, start % 256, 0, 60, 0]

def bookReq (token start : Nat) : BookReq := ⟨token, 1, none, start, 60, 0⟩

theorem witness_BookInsertsTheRecord :
    (State.asks base 0x40 (bookBytes 77 1007)).Takes (ask 0x40 (bookBytes 77 1007)) [] 0x40 7
      ∧ parseBook (ask 0x40 (bookBytes 77 1007)).payload = some (bookReq 77 1007)
      ∧ parseBook (ask 0x40 (bookBytes 0 1007)).payload = some (bookReq 0 1007)
      ∧ parseBook (ask 0x40 (bookBytes 77 9641)).payload = some (bookReq 77 9641)
      ∧ parseBook (ask 0x40 (bookBytes 77 988)).payload = some (bookReq 77 988)
      ∧ base.work = Work.none ∧ base.clockSet = true ∧ (∃ b < 128, (base.bay b).state ≠ .out)
      ∧ (base.cls 1).isSome = true
      ∧ (8640 : Int) < diff 9641 base.clock ∧ diff base.clock (plusTicks 988 classA.grace) = 0
      ∧ diff base.clock (minusTicks 1007 classA.lead) = -1
      ∧ (base.evaluateBook 77 1 none 1007 60 0).refusal = none ∧ (base.evaluateBook 77 1 none 1007 60 0).tier = 0
      ∧ base.classFits 1 .standard none (minusTicks 1007 6) (plusTicks (plusTicks 1007 60) 3) = true
      ∧ base.freeSlot = some 0 := by
  refine ⟨takes _ _ _ rfl rfl rfl, ?_, ?_, ?_, ?_, rfl, rfl, ⟨0, by decide, by decide +kernel⟩, ?_, ?_, ?_, ?_, ?_, ?_,
    ?_, ?_⟩ <;> decide +kernel

/-- AMEND of handle 3: start unchanged, 61 ticks long. -/
def amendBytes : List Nat := [0, 3, 255, 255, 255, 0, 61]

theorem witness_AmendMovesTheWindow :
    let r := recA .booked none 1007
    let s := State.asks { base with book := [r] } 0x41 amendBytes
    let q := { recA .parked (some 0) 940 with endTick := 1000 }
    let u := State.asks (onBay0 .parked (.running 1000 .windowEnd) q) 0x41 amendBytes
    s.Takes (ask 0x41 amendBytes) [] 0x41 7 ∧ parseAmend (ask 0x41 amendBytes).payload = some ⟨3, none, some 61⟩
      ∧ s.LevelInv ∧ base.find 3 = none ∧ s.find 3 = some r
      ∧ s.classFits 1 .standard (some 3) (minusTicks 1007 6) (plusTicks (plusTicks 1007 61) 3) = true
      ∧ diff s.clock (minusTicks 1007 6) = -1
      ∧ u.LevelInv ∧ u.find 3 = some q
      ∧ (∀ x ∈ u.book, x.token = q.token → x.handle ≠ q.handle →
          intersects (minusTicks 940 6) (plusTicks (plusTicks 940 61) 3) x.holdBegin x.intervalEnd = false)
      ∧ u.bayFits 0 (some 3) (minusTicks 940 6) (plusTicks (plusTicks 940 61) 3) = true
      ∧ u.classFits 1 .standard (some 3) (minusTicks 940 6) (plusTicks (plusTicks 940 61) 3) = true
      ∧ diff (plusTicks 940 61) u.clock = 1 ∧ plusTicks 940 61 ≠ q.endTick
      ∧ (u.bay 0).timer = .running 1000 .windowEnd := by
  refine ⟨takes _ _ _ rfl rfl rfl, ?_, ⟨?_, ?_, ?_⟩, ?_, ?_, ?_, ?_, ⟨?_, ?_, ?_⟩, ?_, ?_, ?_, ?_, ?_, ?_, ?_⟩
    <;> decide +kernel

theorem witness_CancelClosesTheRecord :
    let b := recA .booked none 1007
    let s := State.asks { base with book := [b] } 0x42 [0, 3]
    let i := State.asks (onBay0 .parked .none (recA .parked (some 0) 940)) 0x42 [0, 3]
    let h := State.asks (onBay0 .held (.running 1012 .grace) (recA .held (some 0) 1000)) 0x42 [0, 3]
    s.Takes (ask 0x42 [0, 3]) [] 0x42 7 ∧ parseHandle (ask 0x42 [0, 3]).payload = some 3 ∧ s.work = Work.none
      ∧ base.find 3 = none ∧ s.find 3 = some b
      ∧ i.find 3 = some (recA .parked (some 0) 940)
      ∧ h.find 3 = some (recA .held (some 0) 1000) ∧ (h.bay 0).state = .held ∧ h.NobodyWaits := by
  refine ⟨takes _ _ _ rfl rfl rfl, ?_, ?_, ?_, ?_, ?_, ?_, ?_, ⟨?_, ?_⟩⟩ <;> decide +kernel

theorem witness_EntryMarksTheArrival :
    let r := recA .held (some 0) 1006
    let s := State.asks (onBay0 .held (.running 1018 .grace) r) 0x43 [0, 0, 0, 77]
    let a := State.asks (onBay0 .held (.running 1018 .grace) { r with arrived := true }) 0x43 [0, 0, 0, 77]
    let n := State.asks { base with book := [recA .booked none 1067] } 0x43 [0, 0, 0, 77]
    s.Takes (ask 0x43 [0, 0, 0, 77]) [] 0x43 7 ∧ parseToken (ask 0x43 [0, 0, 0, 77]).payload = some 77
      ∧ parseToken (ask 0x43 [0, 0, 0, 0]).payload = some 0 ∧ s.LevelInv ∧ s.clockSet = true
      ∧ (∀ x ∈ n.book, x.token = 77 → inInterval n.clock x.holdBegin x.intervalEnd = false
          ∧ ¬ (x.state = .booked ∧ 0 < diff x.holdBegin n.clock
            ∧ diff x.holdBegin n.clock ≤ ((n.classOf x.cls).early : Int)))
      ∧ s.book.find? (fun x => x.token == 77 && inInterval s.clock x.holdBegin x.intervalEnd) = some r
      ∧ (s.bay 0).state = .held ∧ (s.bay 0).holder = some r.handle
      ∧ a.book.find? (fun x => x.token == 77 && inInterval a.clock x.holdBegin x.intervalEnd)
          = some { r with arrived := true } := by
  refine ⟨takes _ _ _ rfl rfl rfl, ?_, ?_, ⟨?_, ?_, ?_⟩, ?_, ?_, ?_, ?_, ?_, ?_⟩ <;> decide +kernel

/-- 31 entries wait in the walk-up queue. -/
def crowd (n : Nat) : List WalkEntry := (List.range n).map fun i => ⟨100 + i, 2, 30, 900, 1090⟩

/-- No bay is FREE. -/
def taken (n : Nat) : State :=
  { (base.setBay 0 (bayA 1 .occupied)).setBay 1 (bayA 2 .occupied) with walkups := crowd n }

theorem witness_WalkupIsAssignedOrQueued :
    let s := State.asks base 0x44 [0, 0, 0, 77, 0, 2]
    let u (n : Nat) := State.asks (taken n) 0x44 [0, 0, 0, 77, 0, 2]
    s.Takes (ask 0x44 [0, 0, 0, 77, 0, 2]) [] 0x44 7
      ∧ parseWalkup (ask 0x44 [0, 0, 0, 77, 0, 2]).payload = some (77, 2) ∧ s.work = Work.none ∧ s.clockSet = true
      ∧ (s.bay 0).state ≠ .out ∧ (∀ c < 16, (2 : Nat).testBit c = true → (s.cls c).isSome = true)
      ∧ (s.evaluateWalkup 77 2).refusal = none ∧ s.freeSlot = some 0
      ∧ (s.bay 0).loaded = true ∧ (s.bay 0).state = .free ∧ (2 : Nat).testBit (s.bay 0).cls = true
      ∧ s.walkupRun 0 = true ∧ (s.bayClass 0).inRange = true
      ∧ (∀ c < 128, (s.bay c).state = .free → saturate (s.freeRun? c none) = saturate (s.freeRun? 0 none)
          ∧ s.floorSum (s.bay c).branch = s.floorSum (s.bay 0).branch)
      ∧ (∀ w ∈ (u 32).walkups, w.token ≠ 77) ∧ ((u 32).evaluateWalkup 77 2).refusal = none
      ∧ (∀ b < 128, (taken 31).bays.toList[b]?.map Bay.state ≠ some .free)
      ∧ (u 31).walkups.length = 31 ∧ (u 32).walkups.length = 32 := by
  refine ⟨takes _ _ _ rfl rfl rfl, ?_, ?_, ?_, ?_, ?_, ?_, ?_, ?_, ?_, ?_, ?_, ?_, ?_, ?_, ?_, ?_, ?_, ?_⟩
    <;> decide +kernel

theorem witness_WalkupEntriesLeaveTheQueue :
    let w : WalkEntry := ⟨77, 2, 30, 910, 1000⟩
    let x : WalkEntry := ⟨76, 2, 30, 911, 1001⟩
    let s : State := State.asks { base with walkups := [x, w] } 0x45 [0, 0, 0, 77]
    s.walkups = [x] ++ w :: [] ∧ (∀ y ∈ [x], diff s.clock y.expiry < 0 ∧ y.token ≠ w.token)
      ∧ diff s.clock w.expiry = 0
      ∧ s.Takes (ask 0x45 [0, 0, 0, 77]) [] 0x45 7 ∧ parseToken (ask 0x45 [0, 0, 0, 77]).payload = some 77
      ∧ parseToken (ask 0x45 [0, 0, 0, 0]).payload = some 0 ∧ parseToken (ask 0x45 [0, 0, 0, 9]).payload = some 9
      ∧ (∀ y ∈ s.walkups, y.token ≠ 9) := by
  refine ⟨rfl, by decide, by decide, takes _ _ _ rfl rfl rfl, ?_, ?_, ?_, ?_⟩ <;> decide

theorem witness_QueriesOnlyRead :
    parseByte (ask 0x46 [127]).payload = some 127 ∧ parseByte (ask 0x46 [128]).payload = some 128
      ∧ parseHandle (ask 0x47 [0, 3]).payload = some 3
      ∧ (onBay0 .held .none (recA .held (some 0) 1000)).book = [] ++ recA .held (some 0) 1000 :: []
      ∧ (∀ w ∈ (onBay0 .held .none (recA .held (some 0) 1000)).waiting, w ≠ 3) ∧ base.find 3 = none
      ∧ parseByte (ask 0x48 [1]).payload = some 1 ∧ parseByte (ask 0x48 [2]).payload = some 2
      ∧ (ask 0x49 []).payload.length = 2
      ∧ (State.asks base 0x49 []).Takes (ask 0x49 []) [] 0x49 7
      ∧ (State.asks base 0x48 [1]).Takes (ask 0x48 [1]) [] 0x48 7
      ∧ (State.asks base 0x47 [0, 3]).Takes (ask 0x47 [0, 3]) [] 0x47 7
      ∧ (State.asks base 0x46 [127]).Takes (ask 0x46 [127]) [] 0x46 7 :=
  ⟨by decide, by decide, by decide, rfl, by decide, by decide, by decide, by decide, by decide,
    takes _ _ _ rfl rfl rfl, takes _ _ _ rfl rfl rfl, takes _ _ _ rfl rfl rfl, takes _ _ _ rfl rfl rfl⟩

/-- A relay queue of `n` frames. -/
def relayed (n : Nat) : State :=
  { base with bp := { base.bp with relay := List.replicate n ⟨0x20, 1, []⟩ } }

theorem witness_RelayFramesJoinTheRelayQueue :
    (State.asks base 0x21 [1, 9]).Takes (ask 0x21 [1, 9]) [] 0x21 7
      ∧ parseRelay (ask 0x21 [1, 9]).payload = some (1, [9]) ∧ (base.bay 0).loaded = true ∧ (base.bay 0).post = 1
      ∧ (relayed 7).bp.relay.length = 7 ∧ (relayed 8).bp.relay.length = 8
      ∧ parseRelay (ask 0x20 [3]).payload = some (3, [])
      ∧ (∀ b < 128, (base.bay b).loaded = true → (base.bay b).post ≠ 3) := by
  refine ⟨takes _ _ _ rfl rfl rfl, ?_, ?_, ?_, ?_, ?_, ?_, ?_⟩ <;> decide +kernel

/-! ### Witnesses: the management requests -/

/-- Bay 5 OUT and unloaded; bay 0 has post 1. -/
def loadBayReq (post : Nat) : LoadBayReq := ⟨5, post, 7, 1, some 0, none⟩

def loadBayBytes (post : Nat) : List Nat := [5, post, 7, 1, 0, 255]

/-- The payload of a LOAD_CLASS of class 15 with the entry of class 1. -/
def classBytes (c : Nat) : List Nat := [c, 50, 10, 0, 6, 0, 12, 3, 18, 0, 6, 0, 0, 30, 1, 10, 0, 60, 2]

theorem witness_LoadsWriteTheMapAndTheClasses :
    (State.asks base 0x50 (loadBayBytes 200)).Takes (ask 0x50 (loadBayBytes 200)) [] 0x50 7
      ∧ parseLoadBay (ask 0x50 (loadBayBytes 200)).payload = some (loadBayReq 200)
      ∧ parseLoadBay (ask 0x50 (loadBayBytes 1)).payload = some (loadBayReq 1)
      ∧ (∀ n, (loadBayReq 200).left = some n ∨ (loadBayReq 200).right = some n → n < 128 ∧ n ≠ 5)
      ∧ (base.cls 1).isSome = true ∧ (base.bay 5).state = .out
      ∧ (¬ ∃ b < 128, b ≠ 5 ∧ (base.bay b).loaded = true ∧ (base.bay b).post = 200)
      ∧ (base.bay 0).loaded = true ∧ (base.bay 0).post = 1
      ∧ parseLoadClass (ask 0x51 (classBytes 15)).payload = some (15, classA) ∧ classA.inRange = true
      ∧ parseLoadClass (ask 0x51 (classBytes 16)).payload = some (16, classA)
      ∧ (¬ ∃ b < 128, (base.bay b).loaded = true ∧ (base.bay b).cls = 15
          ∧ ((base.bay b).state = .starting ∨ (base.bay b).state = .charging))
      ∧ (emptyBay0 .starting .none).classEnergised 1 = true := by
  refine ⟨takes _ _ _ rfl rfl rfl, ?_, ?_, ?_, ?_, ?_, ?_, ?_, ?_, ?_, ?_, ?_, ?_, ?_⟩
  case refine_3 => intro n h; simp [loadBayReq] at h; subst h; decide
  all_goals decide +kernel

/-- The payload of a LOAD_POLICY of entry 63: CLAMP_LENGTH to `n` when LENGTH is above 255. -/
def policyBytes (i valid n : Nat) : List Nat := [i, valid, 2, 4, 0, 255, 2, n / 256, n % 256]

/-- The payload of a LOAD_PERIOD of place 15 from phase `st`, with level budget 4,000. -/
def periodBytes' (i valid st : Nat) : List Nat :=
  [i, valid, st / 256, st % 256, 15, 160] ++ (List.replicate 8 [3, 232]).flatten

theorem witness_LoadsWriteThePolicyAndTheSchedule :
    (State.asks base 0x52 (policyBytes 63 1 6)).Takes (ask 0x52 (policyBytes 63 1 6)) [] 0x52 7
      ∧ parseLoadPolicy (ask 0x52 (policyBytes 63 1 6)).payload = some ⟨63, true, 2, 4, 255, 2, 6⟩
      ∧ parseLoadPolicy (ask 0x52 (policyBytes 64 1 6)).payload = some ⟨64, true, 2, 4, 255, 2, 6⟩
      ∧ parseLoadPolicy (ask 0x52 (policyBytes 63 0 6)).payload = some ⟨63, false, 2, 4, 255, 2, 6⟩
      ∧ parseLoadPolicy (ask 0x52 (policyBytes 63 1 5)).payload = some ⟨63, true, 2, 4, 255, 2, 5⟩
      ∧ PolicyField.ofCode 2 = some .length ∧ Condition.ofCode 4 = some .ugt
      ∧ PolicyAction.ofCode 2 = some .clampLength
      ∧ (State.asks base 0x53 (periodBytes' 15 1 8639)).Takes (ask 0x53 (periodBytes' 15 1 8639)) [] 0x53 7
      ∧ ((parseLoadPeriod (ask 0x53 (periodBytes' 15 1 8639)).payload).map fun q =>
          (q.index, q.valid, q.start, q.level, q.branch.toList.all fun n => n ≤ 1000))
            = some (15, true, 8639, 4000, true)
      ∧ ((parseLoadPeriod (ask 0x53 (periodBytes' 16 1 8639)).payload).map LoadPeriodReq.index) = some 16
      ∧ ((parseLoadPeriod (ask 0x53 (periodBytes' 15 1 8640)).payload).map LoadPeriodReq.start) = some 8640
      ∧ ((parseLoadPeriod (ask 0x53 (periodBytes' 15 0 8639)).payload).map LoadPeriodReq.valid) = some false
      ∧ base.armed = false ∧ base.stagedElsewhere 15 8639 = false
      ∧ ({ base with staged := base.active } : State).stagedElsewhere 15 0 = true := by
  refine ⟨takes _ _ _ rfl rfl rfl, ?_, ?_, ?_, ?_, ?_, ?_, ?_, takes _ _ _ rfl rfl rfl, ?_, ?_, ?_, ?_, ?_, ?_, ?_⟩
    <;> decide +kernel

/-- The clock stands at a boundary and the schedule is armed. -/
def switching : State := { base with staged := base.active, switchDue := true, armed := true }

theorem witness_ScheduleIsCommittedAndSwitched :
    switching.switchDue = true ∧ switching.armed = true ∧ switching.work = Work.none ∧ switching.energised = []
      ∧ switching.QueuesEmpty ∧ switching.PortsInv
      ∧ (State.asks base 0x54 [1]).Takes (ask 0x54 [1]) [] 0x54 7 ∧ parseCommit (ask 0x54 [1]).payload = some true
      ∧ parseCommit (ask 0x54 [0]).payload = some false ∧ base.switchDue = false ∧ base.armed = false
      ∧ periodsOf base.active ≠ [] ∧ periodsOf State.reset.active = [] :=
  ⟨rfl, rfl, rfl, rfl, queuesEmpty _ (by decide), ports _ rfl rfl, takes _ _ _ rfl rfl rfl, by decide, by decide, rfl, rfl,
    by decide, by decide⟩

/-- The B-port OFF under b_recovery MANUAL. -/
def offManual : State := { base with
  settings := { base.settings with bRecovery := .manual }
  bp := { base.bp with link := { base.bp.link with state := .off, tx := 230 } } }

theorem witness_SettingsAreClampedToTheirRanges :
    (State.asks base 0x55 [1, 0, 0]).Takes (ask 0x55 [1, 0, 0]) [] 0x55 7
      ∧ parseSetParam (ask 0x55 [1, 1, 103]).payload = some (1, 359) ∧ Setting.ofCode 1 = some .horizon
      ∧ Setting.applied .horizon 359 = some 360 ∧ parseSetParam (ask 0x55 [7, 0, 2]).payload = some (7, 2)
      ∧ Setting.applied .bRxMode 2 = none ∧ parseSetParam (ask 0x55 [16, 0, 0]).payload = some (16, 0)
      ∧ parseSetParam (ask 0x55 [10, 0, 0]).payload = some (10, 0) ∧ Setting.ofCode 10 = some .bRecovery
      ∧ Setting.applied .bRecovery 0 = some 0 ∧ offManual.bp.link.state = .off :=
  ⟨takes _ _ _ rfl rfl rfl, by decide, rfl, by decide, by decide, by decide, by decide, by decide, rfl, by decide, rfl⟩

/-- The payload of a CLOCK_SET. -/
def clockBytes (t ph : Nat) : List Nat := [t / 65536, t / 256 % 256, t % 256, ph / 256, ph % 256]

/-- One BOOKED record far ahead. -/
def oneBooked : State := { base with book := [recA .booked none 2000] }

theorem witness_ClockSetMovesTheClock :
    (State.asks base 0x56 (clockBytes 1048575 8639)).Takes (ask 0x56 (clockBytes 1048575 8639)) [] 0x56 7
      ∧ parseClockSet (ask 0x56 (clockBytes 1048575 8639)).payload = some (1048575, 8639)
      ∧ parseClockSet (ask 0x56 (clockBytes 1048576 8639)).payload = some (1048576, 8639)
      ∧ parseClockSet (ask 0x56 (clockBytes 1007 1007)).payload = some (1007, 1007)
      ∧ parseClockSet (ask 0x56 (clockBytes 1000 1000)).payload = some (1000, 1000)
      ∧ (State.asks base 0x56 (clockBytes 1048575 8639)).NothingDue ∧ base.work = Work.none ∧ base.book = []
      ∧ (periodAt base.active 8639).map Period.start = base.inForce.map Period.start
      ∧ (State.asks oneBooked 0x56 (clockBytes 1007 1007)).NothingDue ∧ oneBooked.book ≠ [] ∧ oneBooked.armed = false
      ∧ diff 1007 oneBooked.clock = 7
      ∧ (periodAt oneBooked.active 1006).map Period.start = oneBooked.inForce.map Period.start := by
  have h : ∀ o : Option State, o.isNone = true → o = none := fun o h => by simpa using h
  refine ⟨takes _ _ _ rfl rfl rfl, ?_, ?_, ?_, ?_, h _ ?_, ?_, ?_, ?_, h _ ?_, ?_, ?_, ?_, ?_⟩ <;> decide +kernel

theorem witness_BaysAreWithdrawnAndRestored :
    let s := State.asks base 0x57 [0, 0]
    let u := State.asks (onBay0 .suspect .none (recA .parked (some 0) 940)) 0x57 [0, 0]
    let o := State.asks (emptyBay0 .out .none) 0x58 [0]
    s.Takes (ask 0x57 [0, 0]) [] 0x57 7 ∧ parseWithdraw (ask 0x57 [0, 0]).payload = some (0, false)
      ∧ parseWithdraw (ask 0x57 [128, 1]).payload = some (128, true) ∧ s.work = Work.none ∧ (s.bay 0).state = .free
      ∧ (u.bay 0).holder ≠ none ∧ (u.bay 0).state = .suspect
      ∧ o.Takes (ask 0x58 [0]) [] 0x58 7 ∧ parseByte (ask 0x58 [0]).payload = some 0 ∧ (o.bay 0).state = .out
      ∧ (o.bay 0).loaded = true ∧ (o.bayClass 0).inRange = true ∧ (o.bay 127).loaded = false := by
  refine ⟨takes _ _ _ rfl rfl rfl, ?_, ?_, ?_, ?_, ?_, ?_, takes _ _ _ rfl rfl rfl, ?_, ?_, ?_, ?_, ?_⟩
    <;> decide +kernel

theorem witness_ProofIsSetAndSuspicionCleared :
    let s := State.asks (emptyBay0 .suspect .none) 0x59 [0]
    let r := recA .parked (some 0) 941
    let h := State.asks (onBay0 .suspect .none r) 0x59 [0]
    s.Takes (ask 0x59 [0]) [] 0x59 7 ∧ parseByte (ask 0x59 [0]).payload = some 0 ∧ s.work = Work.none
      ∧ (s.bay 0).state = .suspect ∧ (s.bay 0).holder = none ∧ (s.bayClass 0).inRange = true
      ∧ h.work = Work.none ∧ (h.bay 0).state = .suspect ∧ (h.bay 0).holder = some 3 ∧ h.find 3 = some r
      ∧ diff r.endTick h.clock = 1
      ∧ (State.asks base 0x5A [0]).Takes (ask 0x5A [0]) [] 0x5A 7 ∧ (base.bay 0).state ≠ .out
      ∧ (base.bay 127).state = .out ∧ parseByte (ask 0x5A [128]).payload = some 128 := by
  refine ⟨takes _ _ _ rfl rfl rfl, ?_, ?_, ?_, ?_, ?_, ?_, ?_, ?_, ?_, ?_, takes _ _ _ rfl rfl rfl, ?_, ?_, ?_⟩
    <;> decide +kernel

/-- A HELD record on bay 0, a waiting one and one in session on bay 1. -/
def threeRecords : State :=
  { (onBay0 .held (.running 1012 .grace) (recA .held (some 0) 1000)).setBay 1
      { bayA 2 .parked with holder := some 5 } with
    book := [{ recA .parked (some 1) 950 with handle := 5 }, { recA .waitingBay none 995 with handle := 4 },
      recA .held (some 0) 1000]
    waiting := [4] }

theorem witness_BookClearKeepsTheSessions :
    let s := State.asks threeRecords 0x5B []
    s.Takes (ask 0x5B []) [] 0x5B 7 ∧ (ask 0x5B []).payload.length = 2 ∧ s.LevelInv ∧ s.walkups = []
      ∧ (∀ h ∈ s.waiting, ∃ r ∈ s.book, r.handle = h ∧ r.state = .waitingBay)
      ∧ (∀ b < 128, (s.bay b).state = .held ↔ ∃ r ∈ s.book, r.state = .held ∧ r.bay = some b) := by
  refine ⟨takes _ _ _ rfl rfl rfl, ?_, ⟨?_, ?_, ?_⟩, ?_, ?_, ?_⟩ <;> decide +kernel

/-- A PART_RESET is pending and its reply is on the line. -/
def resetting : State := { base with sp := { base.sp with
  resetPending := true
  replies := [⟨9, 1, 7, 0x5D, .ok, .none, 0⟩]
  slots := #v[.sending ⟨.reply 9, ⟨3, 240, 0x80, 1, []⟩, 1⟩, .empty .none] } }

theorem witness_PortClearAndPartReset :
    (State.asks base 0x5C [0]).Takes (ask 0x5C [0]) [] 0x5C 7 ∧ parseByte (ask 0x5C [0]).payload = some 0
      ∧ parseByte (ask 0x5C [1]).payload = some 1 ∧ parseByte (ask 0x5C [2]).payload = some 2
      ∧ (State.asks base 0x5D []).Takes (ask 0x5D []) [] 0x5D 7 ∧ (ask 0x5D []).payload.length = 2
      ∧ resetting.sSending = some (0, ⟨.reply 9, ⟨3, 240, 0x80, 1, []⟩, 1⟩)
      ∧ ⟨9, 1, 7, 0x5D, .ok, .none, 0⟩ ∈ resetting.sp.replies ∧ resetting.sp.resetPending = true := by
  refine ⟨takes _ _ _ rfl rfl rfl, ?_, ?_, ?_, takes _ _ _ rfl rfl rfl, ?_, ?_, ?_, ?_⟩ <;> decide +kernel

/-! ### Witnesses: the frames of the bay posts -/

/-- A POST_STATUS payload: occupied, plugged, ENERGISED, and the metered power. -/
def statusBytes' (metered : Nat) : List Nat := [1, 1, 2, 0, 0, 0, 77, metered / 256, metered % 256, 0, 5]

def statusOf (metered : Nat) : Status := ⟨true, true, .energised, 77, metered, 5⟩

/-- Bay 0 CHARGING at a ceiling of 10 with `n` strikes. -/
def charging (n : Nat) : State :=
  { (onBay0 .charging .none (recA .charging (some 0) 941)).setBay 0
      { bayA 1 .charging with holder := some 3, ceiling := 10, strikes := n } with
    energised := [⟨0, 0, 50, 10, 950⟩] }

/-- 110 is the limit: 10 kW, and the tolerance of 1 kW. -/
theorem witness_StatusIsCheckedAndStored :
    let f := said 1 (statusBytes' 111)
    let s (n : Nat) := State.told (charging n) 1 (statusBytes' 111)
    let o := State.told (emptyBay0 .out .none) 1 (statusBytes' 111)
    let u := State.told (base.setBay 0 { bayA 1 .suspect with proof := true }) 1 (statusBytes' 111)
    (s 0).Hears f [] 0 ∧ readPostFrame f = .status (statusOf 111) ∧ (s 0).work = Work.none
      ∧ (s 0).settings.relayDivisor = 0 ∧ ((s 0).bay 0).reconcile = false
      ∧ (∀ n p, ((s 0).bay 0).timer ≠ .frozen n p) ∧ ((s 0).bay 0).state = .charging
      ∧ ((s 0).bay 0).proof = false ∧ ((s 0).bay 0).strikes = 0
      ∧ (s 1).Hears f [] 0 ∧ ((s 1).bay 0).power = none ∧ (s 1).slotHolds .power 0 = false
      ∧ ((s 1).bay 0).ceiling * 10 + ((s 1).bayClass 0).overdrawTol = 110 ∧ ((s 1).bay 0).strikes = 1
      ∧ ((s 1).bay 0).holder = some 3 ∧ (s 1).find 3 = some (recA .charging (some 0) 941) ∧ (s 1).FloorsFit
      ∧ (s 1).QueuesEmpty ∧ (State.told base 1 []).sp = base.sp
      ∧ o.Hears f [] 0 ∧ (o.bay 0).state = .out ∧ u.Hears f [] 0 ∧ (u.bay 0).state = .suspect
      ∧ (u.bay 0).proof = true := by
  refine ⟨hears _ _ _ ?_, ?_, ?_, ?_, ?_, ?_, ?_, ?_, ?_, hears _ _ _ ?_, ?_, ?_, ?_, ?_, ?_, ?_, ⟨?_, ?_⟩,
    queuesEmpty _ ?_, ?_, hears _ _ _ ?_, ?_, hears _ _ _ ?_, ?_, ?_⟩
  case refine_6 =>
    intro n p
    rw [show ((State.told (charging 0) 1 (statusBytes' 111)).bay 0).timer = .none by decide +kernel]
    simp
  all_goals decide +kernel

/-- A POST_EVENT payload. -/
def eventBytes (e token : Nat) : List Nat := [e, 0, 0, 0, token]

theorem witness_OccupiedSeatsTheHolder :
    let f := said 2 (eventBytes 1 0)
    let r := recA .held (some 0) 1000
    let h := State.told (onBay0 .held (.running 1012 .grace) r) 2 (eventBytes 1 0)
    let e := State.told base 2 (eventBytes 1 0)
    let o := State.told (emptyBay0 .out .none) 2 (eventBytes 1 0)
    h.Hears f [] 0 ∧ readPostFrame f = .event .occupied ∧ h.work = Work.none ∧ (h.bayClass 0).inRange = true
      ∧ (h.bay 0).state = .held ∧ (h.bay 0).holder = some 3 ∧ h.find 3 = some r
      ∧ e.Hears f [] 0 ∧ (e.bay 0).state = .free ∧ o.Hears f [] 0 ∧ (o.bay 0).state = .out := by
  refine ⟨hears _ _ _ ?_, ?_, ?_, ?_, ?_, ?_, ?_, hears _ _ _ ?_, ?_, hears _ _ _ ?_, ?_⟩ <;> decide +kernel

theorem witness_VacatedCompletesTheRecord :
    let f := said 2 (eventBytes 2 0)
    let r := recA .parked (some 0) 940
    let p := State.told (onBay0 .parked (.running 1003 .overstay) r) 2 (eventBytes 2 0)
    let u := State.told (onBay0 .suspect .none r) 2 (eventBytes 2 0)
    let e := State.told (emptyBay0 .occupied (.running 1003 .plugWait)) 2 (eventBytes 2 0)
    let n := State.told base 2 (eventBytes 2 0)
    p.Hears f [] 0 ∧ readPostFrame f = .event .vacated ∧ p.work = Work.none ∧ (p.bayClass 0).inRange = true
      ∧ (p.bay 0).state = .parked ∧ (p.bay 0).holder = some 3 ∧ p.find 3 = some r
      ∧ u.Hears f [] 0 ∧ (u.bay 0).state = .suspect ∧ (u.bay 0).holder = some 3 ∧ u.find 3 = some r
      ∧ e.Hears f [] 0 ∧ (e.bay 0).state = .occupied ∧ (e.bay 0).holder = none
      ∧ n.Hears f [] 0 ∧ (n.bay 0).state = .free := by
  refine ⟨hears _ _ _ ?_, ?_, ?_, ?_, ?_, ?_, ?_, hears _ _ _ ?_, ?_, ?_, ?_, hears _ _ _ ?_, ?_, ?_,
    hears _ _ _ ?_, ?_⟩ <;> decide +kernel

/-- The B-port JOINING. -/
def silentPort (s : State) : State := { s with bp := { s.bp with link := { s.bp.link with state := .joining } } }

/-- PLUGGED of a token on a state whose B-port does not send. -/
def plugs (s : State) (token : Nat) : State := State.told (silentPort s) 2 (eventBytes 3 token)

theorem witness_PluggedIsJudgedByTheState :
    let r := recA .parked (some 0) 941
    let z := recA .parked (some 0) 940
    let q := recA .seated (some 0) 941
    let a := plugs (onBay0 .parked .none r) 9
    let b := plugs (onBay0 .parked .none z) 77
    let c := plugs (onBay0 .occupied .none q) 77
    let d := plugs { emptyBay0 .occupied .none with clockSet := false } 9
    let e := plugs (emptyBay0 .out .none) 9
    a.Hears (said 2 (eventBytes 3 9)) [] 0 ∧ readPostFrame (said 2 (eventBytes 3 9)) = .event (.plugged 9)
      ∧ a.work = Work.none ∧ a.bp.link.state = .joining ∧ (a.bay 0).branch = 0 ∧ (a.bay 0).state = .parked
      ∧ (a.bay 0).holder = some 3 ∧ a.find 3 = some r
      ∧ b.Hears (said 2 (eventBytes 3 77)) [] 0 ∧ b.find 3 = some z ∧ diff b.clock z.endTick = 0
      ∧ c.Hears (said 2 (eventBytes 3 77)) [] 0 ∧ (c.bay 0).state = .occupied ∧ (c.bay 0).holder = some 3
      ∧ c.find 3 = some q ∧ diff q.endTick c.clock = 1 ∧ (c.queue 0).length < 32
      ∧ d.Hears (said 2 (eventBytes 3 9)) [] 0 ∧ (d.bay 0).state = .occupied ∧ (d.bay 0).holder = none
      ∧ d.clockSet = false ∧ d.book = [] ∧ d.walkups = []
      ∧ e.Hears (said 2 (eventBytes 3 9)) [] 0 ∧ (e.bay 0).state = .out := by
  refine ⟨hears _ _ _ ?_, ?_, ?_, ?_, ?_, ?_, ?_, ?_, hears _ _ _ ?_, ?_, ?_, hears _ _ _ ?_, ?_, ?_, ?_, ?_, ?_,
    hears _ _ _ ?_, ?_, ?_, ?_, ?_, ?_, hears _ _ _ ?_, ?_⟩ <;> decide +kernel

/-- Bay 0 waits for power behind nobody. -/
def queued0 : State :=
  { silentPort (onBay0 .waitingPower .none (recA .seated (some 0) 941)) with
    queues := (Vector.replicate _ []).setIfInBounds 0 [⟨0, none⟩] }

theorem witness_UnplugAndChargeDoneEndTheSession :
    let f := said 2 (eventBytes 4 0)
    let g := said 2 (eventBytes 5 0)
    let s := State.told (charging 0) 2 (eventBytes 4 0)
    let w := State.told queued0 2 (eventBytes 4 0)
    let n := State.told base 2 (eventBytes 5 0)
    s.Hears f [] 0 ∧ readPostFrame f = .event .unplugged ∧ readPostFrame g = .event .chargeDone
      ∧ s.work = Work.none ∧ (s.bay 0).state = .charging ∧ (s.bay 0).holder = some 3
      ∧ s.find 3 = some (recA .charging (some 0) 941) ∧ diff (recA .charging (some 0) 941).endTick s.clock = 1
      ∧ s.FloorsFit ∧ s.QueuesEmpty ∧ s.PortsInv
      ∧ w.Hears f [] 0 ∧ w.work = Work.none ∧ (w.bay 0).state = .waitingPower ∧ (w.bay 0).holder = some 3
      ∧ w.find 3 = some (recA .seated (some 0) 941)
      ∧ (∀ q ∈ w.queue (w.bay 0).branch, q.bay = 0 → q.paused = none) ∧ w.bp.link.state = .joining
      ∧ n.Hears g [] 0 ∧ (n.bay 0).state = .free := by
  refine ⟨hears _ _ _ ?_, ?_, ?_, ?_, ?_, ?_, ?_, ?_, ⟨?_, ?_⟩, queuesEmpty _ ?_,
    ⟨⟨?_, ?_, ?_⟩, ⟨?_, ?_, ?_⟩, ?_, ?_, ?_, ?_, ?_, ?_, ?_⟩, hears _ _ _ ?_, ?_, ?_, ?_, ?_, ?_, ?_, hears _ _ _ ?_, ?_⟩
    <;> decide +kernel

/-! ### Witnesses: the links -/

/-- Both ports in a state with counts, an overrun flag and `n` frames in each receive queue. -/
def linked (st : PortState) (tx rx : Nat) (lost : Bool) (n : Nat) : State :=
  let l : Link := ⟨st, tx, rx, none, 0, lost⟩
  { base with
    bp := { base.bp with link := l, rxq := List.replicate n (said 3 []) }
    sp := { base.sp with link := l, rxq := List.replicate n (ask 0x49 []) } }

/-- What both receivers make of a frame whose payload fits its header and whose check is right. -/
theorem readWire_ok (w : WireFrame) (hl : w.payload.length = wireLength w)
    (hc : w.check = checkOf w.header w.payload) :
    readWire w = .ok ⟨w.header.toNat / 536870912, w.header.toNat / 2097152 % 256, w.header.toNat / 256 % 256,
      w.header.toNat % 256, w.payload⟩ := by
  simp [readWire, hl, ← hc]

theorem witness_FramesAreCountedAndQueued :
    readWire (said 3 []).wire = .ok (said 3 []) ∧ readWire (ask 0x49 []).wire = .ok (ask 0x49 [])
      ∧ (linked .active 119 119 false 15).bp.rxq.length = 15 ∧ (linked .active 119 119 true 16).bp.rxq.length = 16
      ∧ (said 3 []).dest = 0 ∧ (linked .active 119 119 false 15).bayOfPost (said 3 []).source = some 0
      ∧ (linked .active 119 119 false 15).bayOfPost 200 = none
      ∧ (linked .caution 119 120 false 0).bp.link.rx = 120
      ∧ (ask 0x49 []).dest = base.settings.partAddress ∧ (ask 0x49 []).source = 1 := by
  refine ⟨?_, ?_, ?_, ?_, ?_, ?_, ?_, ?_, ?_, ?_⟩
  · exact readWire_ok _ (by decide +kernel) (by decide +kernel)
  · exact readWire_ok _ (by decide +kernel) (by decide +kernel)
  all_goals decide +kernel

theorem witness_ReceiveErrorsAreCounted :
    ((linked .active 119 63 false 0).link .b).rx = 63 ∧ ((linked .active 119 118 false 0).link .s).rx < 119
      ∧ ((linked .active 119 118 false 0).link .s).tx < 120
      ∧ (linked .active 119 119 false 0).bp.link = ⟨.active, 119, 119, none, 0, false⟩
      ∧ ((linked .off 0 0 false 0).link .b).state = .off := by decide

/-- The B-port with a count of idle gaps and the outage flag. -/
def gapped (st : PortState) (n : Nat) (out : Bool) : State :=
  { base with
    bp := { base.bp with link := ⟨st, 5, 6, none, n, false⟩, outage := out }
    sp := { base.sp with link := ⟨st, 5, 6, none, n, false⟩ } }

theorem witness_GapsBringThePortBack :
    (gapped .joining 8 false).work = Work.none ∧ (gapped .joining 8 false).QueuesEmpty
      ∧ (gapped .joining 8 false).bp.link.state = .joining ∧ (gapped .joining 8 false).bp.link.gaps = 8
      ∧ (gapped .recovering 80 true).QueuesEmpty ∧ (gapped .recovering 80 true).bp.link.state = .recovering
      ∧ (gapped .recovering 80 true).bp.link.gaps = 80 ∧ (gapped .recovering 80 true).sp.link.gaps = 80
      ∧ (gapped .joining 7 false).bp.link.gaps < 8 ∧ (gapped .recovering 79 false).sp.link.gaps < 80 :=
  ⟨rfl, queuesEmpty _ (by decide), rfl, rfl, queuesEmpty _ (by decide), rfl, rfl, rfl, by decide, by decide⟩

/-- A family's mark is owed on bays 0 and 1, and its pointer stands at bay 0: bay 1 is next. -/
def owing (fam : Family) : State :=
  let mark (x : Bay) : Bay := match fam with
    | .power => { x with power := some .energise }
    | .access => { x with access := some .foreign }
    | .lamp => { x with lamp := true }
    | .query => { x with query := true }
  let s := (base.setBay 0 (mark (bayA 1 .free))).setBay 1 (mark (bayA 2 .free))
  { s with bp := { s.bp with powerPtr := 0, accessPtr := 0, lampPtr := 0, queryPtr := 0 } }

/-- What the fill statement calls a mark that is owed. -/
def owed (s : State) (fam : Family) (b : Nat) : Bool :=
  (s.bay b).loaded && (s.bay b).owes fam && !s.slotHolds fam b

theorem witness_FillServesTheMarksInOrder :
    (owing .power).bp.link.state = .active ∧ (owing .power).bSlot 0 = .empty .none
      ∧ (owing .power).bp.pointer .power = 0 ∧ owed (owing .power) .power 1 = true
      ∧ ((owing .power).bay 1).power = some .energise
      ∧ owed (owing .access) .access 1 = true ∧ ((owing .access).bay 1).access = some .foreign
      ∧ owed (owing .lamp) .lamp 1 = true ∧ owed (owing .query) .query 1 = true
      ∧ (∀ b < 128, owed (owing .access) .power b = false ∧ owed (owing .lamp) .power b = false
          ∧ owed (owing .lamp) .access b = false ∧ owed (owing .query) .power b = false
          ∧ owed (owing .query) .access b = false ∧ owed (owing .query) .lamp b = false)
      ∧ (∀ b < 128, ∀ fam ∈ families, owed (relayed 1) fam b = false)
      ∧ (relayed 1).bp.relay = [⟨0x20, 1, []⟩] := by
  refine ⟨?_, ?_, ?_, ?_, ?_, ?_, ?_, ?_, ?_, ?_, ?_, ?_⟩ <;> decide +kernel

/-- One reply and one notice, and the two slots. -/
def siteItems (st : PortState) (a b : SSlot) : State := { base with sp := { base.sp with
  link := { base.sp.link with state := st }
  replies := [⟨0, 1, 7, 0x49, .ok, .none, 0⟩]
  notices := [⟨1, 0, false, 0, false, .bookCleared 4⟩]
  gapPending := true
  nextId := 2
  slots := #v[a, b] } }

/-- The reply of `siteItems` in a slot. -/
def replyFill : SFill := ⟨.reply 0, ⟨3, 240, 0x80, 1, [0, 7, 0x49, 0, 64]⟩, 1⟩

def noticeFill : SFill := ⟨.notice 1, ⟨4, 240, 0x81, 255, [18, 192, 0, 0, 0, 0, 4]⟩, 2⟩

theorem witness_FillTakesRepliesBeforeNotices :
    let s := siteItems .caution (.empty .none) (.empty .none)
    let n := siteItems .active (.sending replyFill) (.empty .none)
    let c := siteItems .caution (.sending replyFill) (.empty .none)
    s.sSlot 0 = .empty .none ∧ s.sp.replies = [] ++ ⟨0, 1, 7, 0x49, .ok, .none, 0⟩ :: []
      ∧ s.sp.inSlot (.reply 0) = false
      ∧ n.sSlot 1 = .empty .none ∧ n.sSlot 0 = .sending replyFill
      ∧ (∀ x ∈ n.sp.replies, n.sp.inSlot (.reply x.id) = true) ∧ replyFill.item.isNotice = false
      ∧ n.sp.notices = ⟨1, 0, false, 0, false, .bookCleared 4⟩ :: []
      ∧ c.sSlot 1 = .empty .none ∧ (∀ x ∈ c.sp.replies, c.sp.inSlot (.reply x.id) = true) := by
  refine ⟨?_, ?_, ?_, ?_, ?_, ?_, ?_, ?_, ?_, ?_⟩ <;> first | rfl | decide

/-- Three B-port frames of priorities 2, 6 and 2, and the state of each slot. -/
def busFill (i : Nat) : BFill :=
  if i = 0 then ⟨⟨6, 0, 0x10, 1, [1]⟩, .lamp 0, 1, false⟩
  else if i = 1 then ⟨⟨2, 0, 0x11, 1, [10]⟩, .power 0 .energise, 3, false⟩
  else ⟨⟨2, 0, 0x11, 2, [10]⟩, .power 1 .energise, 2, false⟩

def bus (a b c : BFill → BSlot) : State := { base with bp := { base.bp with
  slots := #v[a (busFill 0), b (busFill 1), c (busFill 2), .empty .none, .empty .none, .empty .none] } }

theorem witness_BeginChoosesTheMostUrgentSlot :
    let s := bus .pending .pending .pending
    let t := bus .pending .sending .pending
    s.bSlot 0 = .pending (busFill 0) ∧ s.bp.link.state = .active ∧ s.bp.slots.toList.all (fun x => !x.isSending) = true
      ∧ s.settings.bTxOrder = .priority ∧ t.bSlot 1 = .sending (busFill 1)
      ∧ (siteItems .active (.pending replyFill) (.pending noticeFill)).sSlot 0 = .pending replyFill
      ∧ (siteItems .active (.sending replyFill) (.pending noticeFill)).sSlot 0 = .sending replyFill := by
  refine ⟨?_, ?_, ?_, ?_, ?_, ?_, ?_⟩ <;> rfl

theorem witness_SentFramesLeaveTheirSlots :
    let s := bus .pending .sending .pending
    let r := siteItems .active (.sending replyFill) (.empty .none)
    let n := siteItems .active (.empty .none) (.sending noticeFill)
    s.bSlot 1 = .sending (busFill 1) ∧ s.bSlot 0 = .pending (busFill 0) ∧ s.bp.link.state = .active
      ∧ s.bp.link.tx < 120 ∧ s.bp.link.rx < 120
      ∧ r.sSlot 0 = .sending replyFill ∧ r.sp.resetPending = false ∧ replyFill.item = .reply 0
      ∧ r.sp.replies = [] ++ ⟨0, 1, 7, 0x49, .ok, .none, 0⟩ :: []
      ∧ n.sSlot 1 = .sending noticeFill ∧ n.sSlot 0 = .empty .none ∧ noticeFill.item = .notice 1
      ∧ n.sp.notices = [] ++ ⟨1, 0, false, 0, false, .bookCleared 4⟩ :: [] := by
  refine ⟨?_, ?_, ?_, ?_, ?_, ?_, ?_, ?_, ?_, ?_, ?_, ?_, ?_⟩ <;> first | rfl | decide

theorem witness_UnsentFramesReturn :
    let s := bus .pending .sending .pending
    let m := s.setBay 0 { bayA 1 .free with power := some .setCeiling }
    s.bSlot 1 = .sending (busFill 1) ∧ (busFill 1).remarked = false ∧ s.bp.link.tx < 56
      ∧ m.bSlot 1 = .sending (busFill 1) ∧ (busFill 1).origin = .power 0 .energise
      ∧ (m.bay 0).power = some .setCeiling
      ∧ (siteItems .active (.sending replyFill) (.empty .none)).sSlot 0 = .sending replyFill
      ∧ base.sendingOn .b = false ∧ base.sendingOn .s = false := by
  refine ⟨?_, ?_, ?_, ?_, ?_, ?_, ?_, ?_, ?_⟩ <;> decide +kernel

/-- The least transmit count from which one error leads to OFF. -/
def nearOff (pending : Bool) : State :=
  let s := bus .pending .sending .pending
  { s with
    bp := { s.bp with link := { s.bp.link with state := .caution, tx := 216 } }
    sp := { s.sp with
      link := { s.sp.link with tx := 216 }
      resetPending := pending
      slots := #v[.sending replyFill, .empty .none] } }

theorem witness_TransmitErrorsLeadToOff :
    (nearOff false).sendingOn .b = true ∧ (nearOff false).bp.link.state = .caution
      ∧ (nearOff false).bp.link.tx = 216 ∧ (nearOff false).sendingOn .s = true
      ∧ (nearOff false).sp.link.state = .active ∧ (nearOff false).sp.link.tx = 216
      ∧ (nearOff false).sp.resetPending = false ∧ (nearOff true).sp.resetPending = true
      ∧ (nearOff true).sendingOn .s = true := by
  refine ⟨?_, ?_, ?_, ?_, ?_, ?_, ?_, ?_, ?_⟩ <;> rfl

/-! ### Witnesses of the clauses about follow-ups, reseats and refusals -/

theorem levelInv (s : State)
    (h : (s.book.map fun r => slotOf r.handle).Nodup ∧ s.walkups.length ≤ Config.walkups ∧ s.work = Work.none) :
    s.LevelInv := ⟨h.1, h.2.1, h.2.2⟩

theorem expires (s : State) (b : Nat) (p : Purpose)
    (h : b < Config.bays ∧ s.dueTimer = some b ∧ (s.bay b).timer.purpose? = some p) : s.Expires b p :=
  ⟨h.1, h.2.1, h.2.2⟩

theorem floorsFit (s : State)
    (h : (∀ br < Config.branches, s.floorSum br ≤ s.branchBudget br) ∧ s.levelFloorSum ≤ s.levelBudget) :
    s.FloorsFit := h

theorem portsAsks (s : State) (k : Nat) (xs : List Nat) (h : s.PortsInv) : (State.asks s k xs).PortsInv :=
  { h with sQueue := (by decide : 1 ≤ 16) }

theorem portsTold (s : State) (k : Nat) (xs : List Nat) (h : s.PortsInv) : (State.told s k xs).PortsInv :=
  { h with bQueue := (by decide : 1 ≤ 16) }

/-- Sessions on bays 0 and 1, whose floors together are above the branch budget of 100. -/
def overBudget : State :=
  let r := recA .charging (some 0) 941
  let q := { recA .charging (some 1) 941 with handle := 4, token := 78 }
  { (onBay0 .charging .none r).setBay 1 { bayA 2 .charging with holder := some 4 } with
    book := [r, q]
    energised := [⟨0, 0, 50, 50, 990⟩, ⟨1, 0, 51, 51, 995⟩] }

theorem witness_RecomputeBringsTheFloorsWithinTheBudgets :
    overBudget.energised = [⟨0, 0, 50, 50, 990⟩] ++ [⟨1, 0, 51, 51, 995⟩]
      ∧ ({ overBudget with energised := [⟨0, 0, 50, 50, 990⟩] } : State).FloorsFit ∧ ¬ overBudget.FloorsFit
      ∧ overBudget.PortsInv ∧ (overBudget.bay 1).holder = some 4
      ∧ overBudget.find 4 = some { recA .charging (some 1) 941 with handle := 4, token := 78 }
      ∧ (overBudget.queue 0).length < 32 ∧ diff 1001 overBudget.clock = 1 :=
  ⟨rfl, floorsFit _ (by decide +kernel), fun h => absurd (h.1 0 (by decide)) (by decide +kernel), ports _ rfl rfl, by decide +kernel⟩

/-- Bay 0 CHARGING at its ceiling, and bay 1 in the start queue, paused. -/
def sharing : State :=
  let r := recA .charging (some 0) 941
  let q := { recA .seated (some 1) 941 with handle := 4, token := 78 }
  { (onBay0 .charging .none r).setBay 0 { bayA 1 .charging with holder := some 3, ceiling := 50 } |>.setBay 1
      { bayA 2 .waitingPower with holder := some 4, timer := .running 1001 .windowEnd } with
    book := [r, q]
    energised := [⟨0, 0, 50, 10, 950⟩]
    queues := (Vector.replicate _ []).setIfInBounds 0 [⟨1, some 940⟩] }

theorem step_waiting (c : Instr) (s : State) : step (waiting c s) = exec c { s with pending := [] } := rfl

theorem sharing_inv : (waiting (.idleGap .b) sharing).ShareInv where
  level := levelInv _ (by decide +kernel)
  tables := by
    refine ⟨⟨by decide, by decide, by decide, by decide, by decide, by decide, by decide, by decide, by decide,
      by decide⟩, by decide, ?_⟩
    intro c e h
    match c with
    | 0 => cases h
    | 1 => cases h; decide
    | n + 2 =>
      have h' : (((Vector.replicate Config.classes (none : Option ClassEntry)).setIfInBounds 0
        (some classA))[n + 1]?).getD none = some e := h
      rw [Vector.getElem?_setIfInBounds_ne (by omega), Vector.getElem?_replicate] at h'
      split at h' <;> cases h'
  branches := by decide +kernel
  timers := by
    have h : ∀ b < Config.bays, ((sharing.bay b).timer.held?.map fun p => p.fits (sharing.bay b).state).getD true
        = true := by decide +kernel
    intro b hb p hp
    have := h b hb
    have hp' : (sharing.bay b).timer.held? = some p := hp
    rw [hp'] at this
    exact this
  held := by
    intro r hr b hs
    rcases List.mem_cons.mp hr with rfl | hr
    · cases hs
    · obtain rfl := List.mem_singleton.mp hr
      cases hs
  entries := by decide +kernel
  energised := by decide +kernel
  distinct := by decide +kernel
  queued := by decide +kernel
  waiting := by decide +kernel
  floors := floorsFit _ (by decide +kernel)
  ceilings := by decide +kernel
  inForce := by
    intro p h
    cases h
    decide
  activePhases := by decide
  stagedPhases := by decide

theorem witness_CeilingsStayWithinTheBudgets_step :
    (waiting (.idleGap .b) sharing).ShareInv
      ∧ step (waiting (.idleGap .b) sharing) = exec (.idleGap .b) { sharing with pending := [] }
      ∧ sharing.FloorsFit ∧ (sharing.energised.map EnergisedEntry.bay).Nodup ∧ (∀ e ∈ sharing.energised, e.bay < 128)
      ∧ sharing.ceilings = [(0, 50)] ∧ sharing.slotHolds .power 0 = false :=
  ⟨sharing_inv, step_waiting _ _, floorsFit _ (by decide +kernel), by decide +kernel⟩

/-- The hold of a record bound to bay 0, which is not FREE, with a count of reseats; bay 1 is FREE. -/
def heldOff (n : Nat) : State :=
  { emptyBay0 .occupied .none with book := [{ recA .booked (some 0) 989 with reseats := n }], nextOrder := 1 }

theorem witness_HoldBegins_reseat :
    (∀ n ∈ [2, 3], (heldOff n).LevelInv
      ∧ (heldOff n).book.find? (fun x => decide (x.state = .booked) && decide (0 ≤ diff (heldOff n).clock x.holdBegin))
          = some { recA .booked (some 0) 989 with reseats := n }
      ∧ ((heldOff n).bay 0).state ≠ .free)
      ∧ diff (plusTicks 989 ((heldOff 2).classOf 1).grace) (heldOff 2).clock = 1
      ∧ (heldOff 2).reseatBay { recA .booked (some 0) 989 with reseats := 2 } 0 = some 1
      ∧ (heldOff 3).reseatBay { recA .booked (some 0) 989 with reseats := 3 } 0 = none := by
  refine ⟨fun n hn => ?_, by decide +kernel⟩
  simp only [List.mem_cons, List.not_mem_nil, or_false] at hn
  rcases hn with rfl | rfl
  · exact ⟨levelInv _ (by decide +kernel), by decide +kernel⟩
  · exact ⟨levelInv _ (by decide +kernel), by decide +kernel⟩

/-- A no-show on bay 0, and two records that wait for a bay: the first of no class that bay 0 serves. -/
def noShow : State :=
  let w := { recA .waitingBay none 989 with handle := 4, token := 78, cls := 2 }
  let v := { recA .waitingBay none 989 with handle := 5, token := 79 }
  { onBay0 .held (.running 1000 .grace) (recA .held (some 0) 988) with
    book := [recA .held (some 0) 988, w, v], waiting := [4, 5] }

theorem witness_GraceDeadlinesCloseTheRecord_release :
    let v := { recA .waitingBay none 989 with handle := 5, token := 79 }
    noShow.LevelInv ∧ noShow.Expires 0 .grace ∧ (noShow.bay 0).loaded = true ∧ noShow.waiting = [4] ++ 5 :: []
      ∧ noShow.find 3 = some (recA .held (some 0) 988) ∧ noShow.find 5 = some v
      ∧ (noShow.find 4).map Reservation.cls = some 2 ∧ v.cls = (noShow.bay 0).cls
      ∧ (∀ n, noShow.freeRun? 0 (some 3) = some n → diff v.intervalEnd noShow.clock ≤ (n : Int))
      ∧ diff (plusTicks v.start (noShow.classOf v.cls).grace) noShow.clock = 1 := by
  refine ⟨levelInv _ (by decide +kernel), expires _ _ _ (by decide +kernel), by decide +kernel, rfl, by decide +kernel,
    by decide +kernel, by decide +kernel, by decide +kernel, fun n h => ?_, by decide +kernel⟩
  rw [show noShow.freeRun? 0 (some 3) = none by decide +kernel] at h
  cases h

/-- Bay 0 vacant at its SETTLE deadline, and two walk-up entries: the first of another class. -/
def settlingFor : State :=
  { settling (some (status0 false false)) with walkups := [⟨76, 4, 30, 990, 1080⟩, ⟨77, 2, 30, 990, 1080⟩] }

theorem witness_SettleJudgesTheBay_walkup :
    settlingFor.Expires 0 .settle ∧ settlingFor.work = Work.none ∧ (settlingFor.bayClass 0).inRange = true
      ∧ (settlingFor.bay 0).status = some (status0 false false) ∧ settlingFor.waiting = []
      ∧ settlingFor.walkups = [⟨76, 4, 30, 990, 1080⟩] ++ ⟨77, 2, 30, 990, 1080⟩ :: []
      ∧ settlingFor.freeSlot = some 0 ∧ (2 : Nat).testBit (settlingFor.bay 0).cls = true
      ∧ (4 : Nat).testBit (settlingFor.bay 0).cls = false ∧ settlingFor.walkupRun 0 = true := by
  exact ⟨expires _ _ _ (by decide +kernel), by decide +kernel⟩

/-- Bay 0 alone in the start queue of an ACTIVE B-port, and a floor of `n` energised on its branch of 100 kW. -/
def startable (n : Nat) : State :=
  { onBay0 .waitingPower .none (recA .seated (some 0) 941) with
    queues := (Vector.replicate _ []).setIfInBounds 0 [⟨0, none⟩]
    energised := [⟨1, 0, n, n, 950⟩] }

/-- A floor of 90 leaves just the 10 that class 1 asks, and 91 one too few. -/
theorem witness_PlugWaitAndInrushEnd_rescan :
    (∀ n ∈ [90, 91], (startable n).work = Work.none ∧ (startable n).queue 0 = [⟨0, none⟩]
      ∧ ((startable n).bay 0).branch = 0 ∧ ((startable n).bay 0).state = .waitingPower
      ∧ ((startable n).bay 0).holder = some 3 ∧ (startable n).find 3 = some (recA .seated (some 0) 941)
      ∧ (∀ e ∈ (startable n).energised, e.bay ≠ 0) ∧ ((startable n).bayClass 0).inRange = true)
      ∧ (startable 90).PortsInv ∧ (startable 91).PortsInv ∧ (startable 90).FloorsFit ∧ (startable 91).FloorsFit
      ∧ (startable 90).floorSum 0 + 10 = (startable 90).branchBudget 0
      ∧ (startable 91).branchBudget 0 < (startable 91).floorSum 0 + 10
      ∧ (∀ y < 128, ((startable 90).bay y).state ≠ .starting) ∧ base.QueuesEmpty :=
  ⟨by decide +kernel, ports _ rfl rfl, ports _ rfl rfl, floorsFit _ (by decide +kernel), floorsFit _ (by decide +kernel),
    by decide +kernel, by decide +kernel, by decide +kernel, queuesEmpty _ (by decide)⟩

/-- Bay 0 CHARGING, or WAITING_POWER behind nobody, at its WINDOW_END. -/
def ending (st : BayState) (q : List QueueEntry) : State :=
  { onBay0 st (.running 1000 .windowEnd) (recA (if st = .charging then .charging else .seated) (some 0) 940) with
    queues := (Vector.replicate _ []).setIfInBounds 0 q
    energised := if st = .charging then [⟨0, 0, 50, 10, 950⟩] else [] }

theorem witness_WindowEndAndOverstay_session :
    (ending .charging []).Expires 0 .windowEnd ∧ (ending .charging []).FloorsFit ∧ (ending .charging []).QueuesEmpty
      ∧ (ending .charging []).PortsInv
      ∧ (ending .waitingPower [⟨0, none⟩]).Expires 0 .windowEnd
      ∧ (ending .waitingPower [⟨0, some 950⟩]).Expires 0 .windowEnd
      ∧ ((ending .charging []).bay 0).state = .charging
      ∧ (ending .charging []).find 3 = some (recA .charging (some 0) 940)
      ∧ (∀ p ∈ (ending .waitingPower [⟨0, some 950⟩]).queue 0,
          ∀ q ∈ (ending .waitingPower [⟨0, some 950⟩]).queue 0, p.bay = 0 → q.bay = 0 → p = q)
      ∧ (∃ q ∈ (ending .waitingPower [⟨0, some 950⟩]).queue 0, q.bay = 0 ∧ q.paused.isSome = true)
      ∧ (¬ ∃ q ∈ (ending .waitingPower [⟨0, none⟩]).queue 0, q.bay = 0 ∧ q.paused.isSome = true)
      ∧ 0 < diff (plusTicks (recA .charging (some 0) 940).endTick 6) (ending .charging []).clock :=
  ⟨expires _ _ _ (by decide +kernel), floorsFit _ (by decide +kernel), queuesEmpty _ (by decide), ports _ rfl rfl,
    expires _ _ _ (by decide +kernel), expires _ _ _ (by decide +kernel), by decide +kernel⟩

/-- A book of 512 records. -/
def fullBook : List Reservation := (List.range 512).map fun i => { recA .booked none 9000 with handle := i, token := 500 }

theorem fullBook_noSlot (s : State) : ({ s with book := fullBook } : State).freeSlot = none := by
  unfold State.freeSlot
  rw [List.find?_eq_none]
  intro i hi
  have hi' : i < 512 := List.mem_range.mp hi
  simp only [fullBook, List.any_map, Bool.not_eq_true, Bool.not_eq_false', List.any_eq_true, List.mem_range,
    Function.comp_apply, beq_iff_eq]
  exact ⟨i, hi', Nat.mod_eq_of_lt hi'⟩

/-- A policy that refuses every request with reason 5. -/
def refusing : Vector (Option PolicyEntry) Config.policyEntries :=
  (Vector.replicate _ none).setIfInBounds 63 (some ⟨.length, .always, 0, .refuse, 5⟩)

/-- A BOOK payload for bay 0. -/
def bookBytesOn (start : Nat) : List Nat :=
  [0, 0, 0, 77, 1, 0, start / 256 / 256, start / 256 % 256, start % 256, 0, 60, 0]

/-- The refusals of BOOK: a walk-up entry or a record of the token, the policy, a full book, a class with no bay left. -/
theorem witness_BookInsertsTheRecord_refusals :
    (∃ w ∈ ({ base with walkups := [⟨77, 2, 30, 990, 1080⟩] } : State).walkups, w.token = 77)
      ∧ intersects (minusTicks 1007 6) (plusTicks (plusTicks 1007 60) 3) (recA .booked none 1069).holdBegin
          (recA .booked none 1069).intervalEnd = true
      ∧ intersects (minusTicks 1007 6) (plusTicks (plusTicks 1007 60) 3) (recA .booked none 1076).holdBegin
          (recA .booked none 1076).intervalEnd = false
      ∧ (({ base with policy := refusing } : State).evaluateBook 77 1 none 1007 60 0).refusal = some 5
      ∧ ({ base with book := fullBook } : State).freeSlot = none
      ∧ ({ base with book := [{ recA .booked none 1007 with token := 76 },
            { recA .booked none 1007 with handle := 4, token := 75 }] } : State).classFits 1 .standard none
          (minusTicks 1007 6) (plusTicks (plusTicks 1007 60) 3) = false :=
  ⟨⟨⟨77, 2, 30, 990, 1080⟩, by decide, rfl⟩, by decide, by decide, by decide +kernel, fullBook_noSlot _,
    by decide +kernel⟩

/-- The holds that begin at once: on bay 0, FREE; off bay 0, not FREE; of the class; and with no bay FREE. -/
theorem witness_BookInsertsTheRecord_holds :
    let o := emptyBay0 .occupied .none
    let n := (base.setBay 0 (bayA 1 .held)).setBay 1 (bayA 2 .held)
    parseBook (ask 0x40 (bookBytesOn 1006)).payload = some { bookReq 77 1006 with bay := some 0 }
      ∧ parseBook (ask 0x40 (bookBytes 77 1006)).payload = some (bookReq 77 1006)
      ∧ diff base.clock (minusTicks 1006 6) = 0 ∧ 0 < diff (plusTicks 1006 12) base.clock
      ∧ base.bayFits 0 none (minusTicks 1006 6) (plusTicks (plusTicks 1006 60) 3) = true
      ∧ base.classFits 1 .standard none (minusTicks 1006 6) (plusTicks (plusTicks 1006 60) 3) = true
      ∧ (base.bay 0).state = .free ∧ (o.bay 0).state ≠ .free
      ∧ (base.evaluateBook 77 1 (some 0) 1006 60 0).tier = 0
      ∧ (o.evaluateBook 77 1 (some 0) 1006 60 0).refusal = none
      ∧ o.select { recA .booked (some 0) 1006 with handle := 0 } (some 0) = some 1
      ∧ base.select { recA .booked none 1006 with handle := 0 } none = some 0
      ∧ n.select { recA .booked none 1006 with handle := 0 } none = none := by
  refine ⟨?_, ?_⟩ <;> decide +kernel

/-- A BOOKED record one tick before its hold-begin, bound to bay 0 or to its class. -/
def arriving (bay : Option Nat) (st : BayState) : State :=
  State.asks { (base.setBay 0 (bayA 1 st)).setBay 1 (bayA 2 st) with book := [recA .booked bay 1007] } 0x43
    [0, 0, 0, 77]

theorem witness_EntryMarksTheArrival_early :
    (∀ bay ∈ [some 0, none], ∀ st ∈ [BayState.free, .held], (arriving bay st).clockSet = true
      ∧ (arriving bay st).book = [recA .booked bay 1007])
      ∧ (arriving (some 0) .free).Takes (ask 0x43 [0, 0, 0, 77]) [] 0x43 7 ∧ (arriving (some 0) .free).LevelInv
      ∧ diff (recA .booked none 1007).holdBegin 1000 = 1 ∧ (base.classOf 1).early = 60
      ∧ 0 < diff (plusTicks 1007 (base.classOf 1).grace) base.clock
      ∧ ((arriving (some 0) .free).bay 0).state = .free ∧ (arriving (some 0) .free).freeRun? 0 (some 3) = none
      ∧ (arriving none .free).select (recA .booked none 1007) none = some 0
      ∧ ((arriving (some 0) .held).bay 0).state ≠ .free
      ∧ (arriving none .held).select (recA .booked none 1007) none = none :=
  ⟨by decide +kernel, takes _ _ _ rfl rfl rfl, levelInv _ (by decide +kernel), by decide +kernel⟩

theorem witness_WalkupIsAssignedOrQueued_refusals :
    let s := State.asks base 0x44 [0, 0, 0, 77, 0, 2]
    let p := { s with policy := refusing }
    ({ s with clockSet := false } : State).clockSet = false
      ∧ parseWalkup (ask 0x44 [0, 0, 0, 77, 0, 4]).payload = some (77, 4) ∧ (4 : Nat).testBit 2 = true
      ∧ (s.cls 2).isSome = false
      ∧ (∃ w ∈ ({ s with walkups := [⟨77, 2, 30, 990, 1080⟩] } : State).walkups, w.token = 77)
      ∧ (p.evaluateWalkup 77 2).refusal = some 5
      ∧ (∀ r ∈ fullBook, r.token ≠ 77) ∧ ({ s with book := fullBook } : State).freeSlot = none
      ∧ (({ s with book := fullBook } : State).evaluateWalkup 77 2).refusal = none := by
  refine ⟨rfl, by decide, by decide, by decide +kernel, ⟨⟨77, 2, 30, 990, 1080⟩, by decide, rfl⟩, by decide +kernel, ?_,
    fullBook_noSlot _, by decide +kernel⟩
  intro r hr
  obtain ⟨i, _, rfl⟩ := List.mem_map.mp hr
  exact (by decide : (500 : Nat) ≠ 77)

theorem witness_BaysAreWithdrawnAndRestored_holders :
    let r := recA .held (some 0) 989
    let h := State.asks (onBay0 .held (.running 1001 .grace) r) 0x57 [0, 0]
    let o := State.asks (onBay0 .parked .none (recA .parked (some 0) 940)) 0x57 [0, 1]
    let c := State.asks (charging 0) 0x57 [0, 1]
    let w := State.asks (ending .waitingPower [⟨0, none⟩]) 0x57 [0, 1]
    h.Takes (ask 0x57 [0, 0]) [] 0x57 7 ∧ h.LevelInv ∧ (h.bay 0).state = .held ∧ (h.bay 0).holder = some 3
      ∧ h.find 3 = some r ∧ diff (plusTicks r.start (h.classOf 1).grace) h.clock = 1
      ∧ parseWithdraw (ask 0x57 [0, 1]).payload = some (0, true)
      ∧ o.Takes (ask 0x57 [0, 1]) [] 0x57 7 ∧ (o.bay 0).state = .parked ∧ (o.bay 0).holder = some 3
      ∧ o.find 3 = some (recA .parked (some 0) 940)
      ∧ (c.bay 0).state = .charging ∧ c.find 3 = some (recA .charging (some 0) 941) ∧ c.FloorsFit ∧ c.QueuesEmpty
      ∧ c.PortsInv
      ∧ (w.bay 0).state = .waitingPower
      ∧ (∀ p ∈ w.queue (w.bay 0).branch, ∀ q ∈ w.queue (w.bay 0).branch, p.bay = 0 → q.bay = 0 → p = q)
      ∧ w.find 3 = some (recA .seated (some 0) 940)
      ∧ (∃ q ∈ (ending .waitingPower [⟨0, some 950⟩]).queue 0, q.bay = 0 ∧ q.paused.isSome = true) :=
  ⟨takes _ _ _ rfl rfl rfl, levelInv _ (by decide +kernel), by decide +kernel, by decide +kernel, by decide +kernel,
    by decide +kernel, by decide, takes _ _ _ rfl rfl rfl, by decide +kernel, by decide +kernel, by decide +kernel,
    by decide +kernel, by decide +kernel, floorsFit _ (by decide +kernel), queuesEmpty _ (by decide), portsAsks _ _ _ (ports _ rfl rfl),
    by decide +kernel⟩

/-- A status plugged and not occupied, DONE, and one occupied and unplugged. -/
def ghostBytes : List Nat := [0, 1, 0, 0, 0, 0, 0, 0, 0, 0, 0]
def standingBytes : List Nat := [1, 0, 0, 0, 0, 0, 0, 0, 0, 0, 0]
def vacantBytes : List Nat := [0, 0, 0, 0, 0, 0, 0, 0, 0, 0, 0]

/-- Bay 0 in a state, its last status `n` ticks ago and a disagreement of 1, with a bay record changed. -/
def sensed (st : BayState) (n : Nat) (f : Bay → Bay) (xs : List Nat) : State :=
  State.told (base.setBay 0 (f { bayA 1 st with statusTick := some (BitVec.ofNat 20 (1000 - n)), disagree := 1 })) 1 xs

/-- The disagreement reaches the tolerance of 6 with a gap of 5, and falls one short with a gap of 4; a proof asked on a FREE
bay; every second status decimated; a frozen timer; a reconcile mark whose report shows no event missed. -/
theorem witness_StatusIsCheckedAndStored_branches :
    let d := { sensed .free 5 (fun x => { x with relayCount := 1 }) vacantBytes with
      settings := { base.settings with relayDivisor := 2 } }
    (sensed .clearing 5 id ghostBytes).Hears (said 1 ghostBytes) [] 0
      ∧ readPostFrame (said 1 ghostBytes) = .status ⟨false, true, .idle, 0, 0, 0⟩
      ∧ ((sensed .clearing 5 id ghostBytes).bay 0).disagree + 5 = base.settings.sensorTolerance
      ∧ (diff (1000 : Tick) 995).toNat = 5 ∧ ((sensed .clearing 5 id ghostBytes).bay 0).state = .clearing
      ∧ ((sensed .clearing 4 id ghostBytes).bay 0).statusTick = some 996
      ∧ ((sensed .free 5 (fun x => { x with proof := true }) vacantBytes).bay 0).proof = true
      ∧ ((sensed .free 5 (fun x => { x with proof := true }) vacantBytes).bay 0).reconcile = false
      ∧ d.settings.relayDivisor = (d.bay 0).relayCount + 1
      ∧ ((sensed .clearing 5 (fun x => { x with timer := .frozen 524287 .settle }) vacantBytes).bay 0).timer
          = .frozen 524287 .settle
      ∧ readPostFrame (said 1 vacantBytes) = .status ⟨false, false, .idle, 0, 0, 0⟩
      ∧ ((sensed .free 5 (fun x => { x with reconcile := true }) vacantBytes).bay 0).reconcile = true
      ∧ ((sensed .free 5 (fun x => { x with reconcile := true }) vacantBytes).bay 0).state = .free := by
  refine ⟨hears _ _ _ ?_, ?_⟩ <;> decide +kernel

theorem witness_OccupiedSeatsTheHolder_reconcile :
    let s := sensed .free 5 (fun x => { x with reconcile := true }) standingBytes
    s.Hears (said 1 standingBytes) [] 0
      ∧ readPostFrame (said 1 standingBytes) = .status ⟨true, false, .idle, 0, 0, 0⟩
      ∧ (s.bay 0).reconcile = true ∧ (s.bay 0).proof = false ∧ (s.bay 0).state = .free ∧ s.settings.relayDivisor = 0
      ∧ s.work = Work.none ∧ (s.bayClass 0).inRange = true := by
  refine ⟨hears _ _ _ ?_, ?_⟩ <;> decide +kernel

theorem witness_VacatedCompletesTheRecord_reconcile :
    let s := sensed .occupied 5 (fun x => { x with reconcile := true }) vacantBytes
    let u := { State.told (onBay0 .suspect .none (recA .parked (some 0) 940)) 1 vacantBytes with
      bays := base.bays.setIfInBounds 0 { bayA 1 .suspect with holder := some 3, reconcile := true } }
    s.Hears (said 1 vacantBytes) [] 0 ∧ (s.bay 0).reconcile = true ∧ (s.bay 0).proof = false
      ∧ (s.bay 0).state = .occupied ∧ (s.bay 0).holder = none ∧ s.settings.relayDivisor = 0
      ∧ (u.bay 0).state = .suspect ∧ (u.bay 0).holder = some 3 ∧ u.find 3 = some (recA .parked (some 0) 940) := by
  refine ⟨hears _ _ _ ?_, ?_⟩ <;> decide +kernel

/-- VACATED and UNPLUGGED on a bay CHARGING and on one in the start queue, paused. -/
theorem witness_VacatedCompletesTheRecord_sessions :
    let c := State.told (charging 0) 2 (eventBytes 2 0)
    let w := State.told (ending .waitingPower [⟨0, some 950⟩]) 2 (eventBytes 2 0)
    c.Hears (said 2 (eventBytes 2 0)) [] 0 ∧ w.Hears (said 2 (eventBytes 2 0)) [] 0 ∧ c.FloorsFit ∧ c.QueuesEmpty
      ∧ c.PortsInv ∧ (c.bay 0).state = .charging ∧ (c.bay 0).holder = some 3
      ∧ c.find 3 = some (recA .charging (some 0) 941) ∧ (c.bayClass 0).inRange = true
      ∧ (w.bay 0).state = .waitingPower ∧ (w.bay 0).holder = some 3 ∧ w.find 3 = some (recA .seated (some 0) 940)
      ∧ (∀ p ∈ w.queue (w.bay 0).branch, ∀ q ∈ w.queue (w.bay 0).branch, p.bay = 0 → q.bay = 0 → p = q)
      ∧ (∃ q ∈ w.queue (w.bay 0).branch, q.bay = 0 ∧ q.paused.isSome = true) :=
  ⟨hears _ _ _ (by decide +kernel), hears _ _ _ (by decide +kernel), floorsFit _ (by decide +kernel),
    queuesEmpty _ (by decide), portsTold _ _ _ (ports _ rfl rfl), by decide +kernel⟩

theorem witness_UnplugAndChargeDoneEndTheSession_queued :
    let w := State.told (ending .waitingPower [⟨0, some 950⟩]) 2 (eventBytes 4 0)
    w.Hears (said 2 (eventBytes 4 0)) [] 0 ∧ readPostFrame (said 2 (eventBytes 4 0)) = .event .unplugged
      ∧ w.work = Work.none ∧ (w.bay 0).state = .waitingPower ∧ w.find 3 = some (recA .seated (some 0) 940)
      ∧ (∃ q ∈ w.queue (w.bay 0).branch, q.bay = 0 ∧ q.paused.isSome = true) :=
  ⟨hears _ _ _ (by decide +kernel), by decide +kernel⟩

/-- Bay 0 found silent while HELD, CHARGING, and alone in the start queues. -/
theorem witness_SuspectEntry_holders :
    let silent (s : State) : State := s.setBay 0 { s.bay 0 with silenceDue := true }
    let h := silent (onBay0 .held (.running 1001 .grace) (recA .held (some 0) 989))
    let c := silent (charging 0)
    let w := silent (ending .waitingPower [⟨0, some 950⟩])
    h.LevelInv ∧ c.FloorsFit ∧ c.QueuesEmpty ∧ c.PortsInv ∧ w.FloorsFit
      ∧ h.dueSilence = some 0 ∧ c.dueSilence = some 0 ∧ w.dueSilence = some 0 ∧ (h.bay 0).state = .held
      ∧ (h.bay 0).holder = some 3 ∧ h.find 3 = some (recA .held (some 0) 989)
      ∧ diff (plusTicks 989 (h.classOf 1).grace) h.clock = 1
      ∧ (c.bay 0).state = .charging ∧ c.find 3 = some (recA .charging (some 0) 941)
      ∧ (w.bay 0).state = .waitingPower ∧ w.find 3 = some (recA .seated (some 0) 940) ∧ w.energised = []
      ∧ (∀ q ∈ w.queue (w.bay 0).branch, q.bay = 0) ∧ (w.queue (w.bay 0).branch).length = 1
      ∧ (∃ q ∈ w.queue (w.bay 0).branch, q.paused.isSome = true) :=
  ⟨levelInv _ (by decide +kernel), floorsFit _ (by decide +kernel), queuesEmpty _ (by decide), ports _ rfl rfl,
    floorsFit _ (by decide +kernel), by decide +kernel⟩

/-- PLUGGED of a token on a state whose B-port is ACTIVE. -/
def plugsIn (s : State) (token : Nat) : State := State.told s 2 (eventBytes 3 token)

/-- 32 bays wait in the start queue of branch 0, or 31. -/
def crowded (n : Nat) (s : State) : State :=
  { s with queues := (Vector.replicate _ []).setIfInBounds 0 ((List.range n).map fun i => ⟨i + 40, none⟩) }

/-- The holder's token on a HELD bay, with a place in the start queue and with none; and an OCCUPIED bay whose holder's end
has just passed. -/
theorem witness_PluggedIsJudgedByTheState_holder :
    let r := recA .held (some 0) 941
    let s (n : Nat) := plugsIn (crowded n (onBay0 .held (.running 1012 .grace) r)) 77
    let o := plugsIn (onBay0 .occupied .none (recA .seated (some 0) 940)) 77
    (s 31).Hears (said 2 (eventBytes 3 77)) [] 0 ∧ ((s 31).bay 0).state = .held ∧ ((s 31).bay 0).holder = some 3
      ∧ (s 31).find 3 = some r ∧ r.token = 77 ∧ diff r.endTick (s 31).clock = 1 ∧ ((s 31).queue 0).length = 31
      ∧ ((s 32).queue 0).length = 32 ∧ (s 32).find 3 = some r ∧ ((s 31).bayClass 0).inRange = true
      ∧ (o.bay 0).state = .occupied ∧ o.find 3 = some (recA .seated (some 0) 940)
      ∧ diff o.clock (recA .seated (some 0) 940).endTick = 0
      ∧ 0 < diff (plusTicks (recA .seated (some 0) 940).endTick (o.bayClass 0).overstay) o.clock := by
  refine ⟨hears _ _ _ ?_, ?_⟩ <;> decide +kernel

/-- A token that adopts on the FREE bay 0: its record waits for a bay, is BOOKED within its early window, or is HELD on bay
1. -/
def adopting (st : ResState) : State :=
  let r := recA st (if st = .held then some 1 else none) (if st = .booked then 1066 else 990)
  plugsIn { base.setBay 1 (if st = .held then { bayA 2 .held with holder := some 3 } else bayA 2 .free) with
    book := [r], waiting := if st = .waitingBay then [3] else [] } 77

theorem witness_PluggedIsJudgedByTheState_adopts :
    (∀ st ∈ [ResState.waitingBay, .booked, .held], (adopting st).bayOfPost 1 = some 0
      ∧ ((adopting st).bay 0).state = .free ∧ ((adopting st).find 3).map Reservation.state = some st
      ∧ ((adopting st).find 3).map Reservation.token = some 77 ∧ (adopting st).freeRun? 0 (some 3) = none
      ∧ ((adopting st).book.map fun r => slotOf r.handle).Nodup ∧ (adopting st).work = Work.none
      ∧ ((adopting st).queue 0).length < 32)
      ∧ (adopting .booked).Hears (said 2 (eventBytes 3 77)) [] 0
      ∧ diff 1000 (minusTicks (recA .booked none 1066).holdBegin 60) = 0
      ∧ ((adopting .held).find 3).map Reservation.bay = some (some 1) := by
  refine ⟨?_, hears _ _ _ ?_, ?_⟩ <;> decide +kernel

/-- The other plugs on the FREE bay 0: a token of the walk-up queue, a drive-in that is served, and one turned away by each
check in turn. -/
theorem witness_PluggedIsJudgedByTheState_serves :
    let w : State := { base with walkups := [⟨76, 2, 30, 990, 1080⟩, ⟨77, 2, 30, 990, 1080⟩] }
    let l : State := { base with book := [{ recA .parked (some 1) 940 with token := 9 }] }
    (plugsIn w 77).Hears (said 2 (eventBytes 3 77)) [] 0
      ∧ (plugsIn w 77).walkups = [⟨76, 2, 30, 990, 1080⟩] ++ ⟨77, 2, 30, 990, 1080⟩ :: [] ∧ w.walkupRun 0 = true
      ∧ w.freeSlot = some 0 ∧ (2 : Nat).testBit (w.bay 0).cls = true
      ∧ (base.evaluateDriveIn 9 0).refusal = none ∧ 0 < (base.evaluateDriveIn 9 0).length ∧ base.clockSet = true
      ∧ base.freeSlot = some 0 ∧ base.walkupRun 0 = true
      ∧ (({ base with policy := refusing } : State).evaluateDriveIn 9 0).refusal = some 5
      ∧ (base.evaluateDriveIn 0 0).refusal = none
      ∧ (l.evaluateDriveIn 9 0).refusal = none ∧ (∃ r ∈ l.book, r.token = 9 ∧ r.state = .parked)
      ∧ ({ base with book := fullBook } : State).freeSlot = none
      ∧ ({ base with book := [recA .booked (some 0) 1012] } : State).walkupRun 0 = false := by
  refine ⟨hears _ _ _ ?_, rfl, ?_, ?_, ?_, ?_, ?_, ?_, ?_, ?_, ?_, ?_, ?_, ?_, fullBook_noSlot _, ?_⟩
    <;> decide +kernel

/-- A foreign token on the HELD bay 0, and on bay 0 OCCUPIED by another holder. -/
theorem witness_PluggedIsJudgedByTheState_foreign :
    let r := recA .held (some 0) 989
    let h := plugsIn (onBay0 .held (.running 1001 .grace) r) 9
    let o := plugsIn (onBay0 .occupied .none { r with state := .seated }) 9
    h.Hears (said 2 (eventBytes 3 9)) [] 0 ∧ h.LevelInv ∧ o.LevelInv ∧ (h.bay 0).state = .held
      ∧ (o.bay 0).state = .occupied ∧ (h.bay 0).holder = some 3 ∧ h.find 3 = some r ∧ (∀ q ∈ h.book, q.token ≠ 9)
      ∧ h.walkups = [] ∧ diff (plusTicks r.start (h.classOf 1).grace) h.clock = 1
      ∧ h.reseatBay r 0 = some 1 := by
  refine ⟨hears _ _ _ ?_, levelInv _ ?_, levelInv _ ?_, ?_⟩ <;> decide +kernel

theorem witness_UnplugAndChargeDoneEndTheSession_reconcile :
    let s := State.told ((charging 0).setBay 0
      { bayA 1 .charging with holder := some 3, ceiling := 10, reconcile := true }) 1 standingBytes
    s.Hears (said 1 standingBytes) [] 0
      ∧ readPostFrame (said 1 standingBytes) = .status ⟨true, false, .idle, 0, 0, 0⟩
      ∧ (s.bay 0).reconcile = true ∧ (s.bay 0).proof = false ∧ (s.bay 0).state = .charging
      ∧ s.find 3 = some (recA .charging (some 0) 941) ∧ diff (recA .charging (some 0) 941).endTick s.clock = 1
      ∧ s.FloorsFit ∧ s.QueuesEmpty ∧ s.PortsInv ∧ (base.bayClass 0).overdrawTol = 10
      ∧ s.settings.relayDivisor = 0 :=
  ⟨hears _ _ _ (by decide +kernel), by decide +kernel, by decide +kernel, by decide +kernel, by decide +kernel,
    by decide +kernel, by decide +kernel, floorsFit _ (by decide +kernel), queuesEmpty _ (by decide),
    portsTold _ _ _ (ports _ rfl rfl), by decide +kernel⟩

/-- Full receive queues with the overrun flag clear and set, and a port that stays in CAUTION and one that leaves it. -/
theorem witness_FramesAreCountedAndQueued_overrun :
    (linked .active 119 119 false 16).bp.rxq.length = 16 ∧ (linked .active 119 119 false 16).sp.rxq.length = 16
      ∧ (linked .active 119 119 false 16).sp.link.overrun = false ∧ (linked .active 119 119 true 16).sp.link.overrun = true
      ∧ (linked .caution 120 0 false 0).sp.link.tx = 120 ∧ (linked .caution 223 0 false 0).bp.link.tx < 224
      ∧ (linked .caution 119 0 false 0).sp.link.tx = 119 := by decide +kernel

/-- Transmit counts at the bounds of the clauses: 56, whose error reaches 64; 111 and 112; 112 and 215 in CAUTION. -/
theorem witness_UnsentFramesReturn_counts :
    let s (st : PortState) (tx : Nat) : State :=
      let b := bus .pending .sending .pending
      { b with
        bp := { b.bp with link := { b.bp.link with state := st, tx := tx } }
        sp := { (siteItems st (.sending noticeFill) (.pending replyFill)).sp with
          link := { b.sp.link with state := st, tx := tx } } }
    let m := (bus .pending .pending fun f => .sending { f with remarked := true })
    (∀ st ∈ [PortState.active, .caution], ∀ tx ∈ [56, 111, 112, 215],
      (s st tx).bSlot 1 = .sending (busFill 1) ∧ (s st tx).bSlot 0 = .pending (busFill 0)
        ∧ (s st tx).sSlot 0 = .sending noticeFill ∧ (s st tx).bp.link.state = st ∧ (s st tx).bp.link.tx = tx
        ∧ (s st tx).sp.link.state = st ∧ (s st tx).sp.link.tx = tx ∧ (s st tx).bp.link.rx < 120)
      ∧ (s .active 112).sSlot 1 = .pending replyFill ∧ replyFill.item.isNotice = false
      ∧ noticeFill.item.isNotice = true
      ∧ m.bSlot 2 = .sending { busFill 2 with remarked := true } ∧ m.bSlot 1 = .pending (busFill 1) := by
  refine ⟨?_, ?_⟩ <;> decide +kernel

/-- Owing LAMP of bay 2 and QUERY of bay 1 while a frame of each is SENDING, or PENDING. -/
theorem witness_PowerMarksMerge_slots :
    let s (x : BSlot) : State := base.setBSlot 1 x
    let f : BFill := ⟨⟨6, 0, 0x10, 1, [1]⟩, .lamp 0, 4, false⟩
    (s (.sending f)).bSlot 1 = .sending f ∧ f.origin.isFor .lamp 0 = true ∧ f.origin.isFor .query 0 = false
      ∧ (oweLamp 0 (s (.sending f))).bSlot 1 = .sending { f with remarked := true }
      ∧ (oweLamp 1 (s (.sending f))).bSlot 1 = .sending f ∧ (oweQuery 0 (s (.sending f))).bSlot 1 = .sending f
      ∧ (oweLamp 0 (s (.pending f))).bSlot 1 = .empty .aborted := by
  decide +kernel

/-- A state of the share unit with two periods, the second about to come into force; the energised bay's record ends later. With
a switch due the commit is armed. -/
def changing (due : Bool) : State := { sharing with
  clock := 999
  switchDue := due
  armed := due
  active := ((Vector.replicate _ none).setIfInBounds 0 (some periodA)).setIfInBounds 1 (some { periodA with start := 1001 }) }

theorem tablesLike {s t : State} (h : s.TablesInv) (hs : t.settings = s.settings) (hp : t.phase = s.phase)
    (hc : t.classes = s.classes) : t.TablesInv where
  settings := hs ▸ h.settings
  phase := hp ▸ h.phase
  classes c e he := h.classes c e (by
    cases c with
    | zero => exact he
    | succ n => simpa only [State.cls, hc] using he)

theorem changing_inv (due : Bool) : (changing due).ShareInv where
  level := { sharing_inv.level with }
  tables := tablesLike sharing_inv.tables rfl rfl rfl
  branches := sharing_inv.branches
  timers := sharing_inv.timers
  held := sharing_inv.held
  entries := sharing_inv.entries
  energised := sharing_inv.energised
  distinct := sharing_inv.distinct
  queued := sharing_inv.queued
  waiting := sharing_inv.waiting
  floors := sharing_inv.floors
  ceilings := sharing_inv.ceilings
  inForce := by
    intro p h
    cases h
    decide +revert
  activePhases := by decide +revert
  stagedPhases := by decide +revert

theorem sharingAt (s : State) (now : Tick)
    (h : (s.energised.all fun e => match s.holderRec e.bay with
          | some r => decide (0 < diff r.endTick now) | none => true) = true
      ∧ ∀ b < Config.bays, (s.bay b).state.energised = true ∨ (s.bay b).state = .waitingPower →
        (s.bayClass b).inRange = true) : s.Sharing now where
  ahead e he r hr := by
    have := List.all_eq_true.mp h.1 e he
    rw [hr] at this
    simpa using this
  classes := h.2

/-- A boundary with a commit armed, and a change of period with a session running and a bay waiting for power. -/
theorem witness_TickAdvancesTheClock_periods :
    let a : State := { base with armed := true, phase := 8639 }
    (catchStep a).isNone = true ∧ a.work = Work.none ∧ a.armed = true
      ∧ (∃ p ∈ periodsOf a.active, p.start = (a.phase + 1) % 8640)
      ∧ (catchStep (changing false)).isNone = true ∧ (changing false).work = Work.none ∧ (changing false).armed = false
      ∧ (periodAt (changing false).active (((changing false).phase + 1) % 8640)).map Period.start
        ≠ (changing false).inForce.map Period.start
      ∧ (changing false).ShareInv ∧ (changing false).Sharing ((changing false).clock + 1)
      ∧ (changing false).energised ≠ [] :=
  ⟨by decide +kernel, rfl, rfl, ⟨periodA, by decide +kernel, by decide⟩, by decide +kernel, rfl, rfl, by decide +kernel,
    changing_inv _, sharingAt _ _ (by decide +kernel), by decide⟩

/-- A bay waits for power and no period is in force. -/
def unpowered : State := { sharing with
  bays := sharing.bays.setIfInBounds 0 (bayA 1 .free)
  energised := [], inForce := none, active := Vector.replicate _ none, armed := false }

/-- A COMMIT_SCHEDULE there. -/
def committing : State := State.asks unpowered 0x54 [0]

theorem committing_inv : committing.ShareInv where
  level := levelInv _ (by decide +kernel)
  tables := by
    have h : unpowered.TablesInv := tablesLike sharing_inv.tables rfl rfl rfl
    exact tablesLike h (by rw [committing, State.asks]) (by rw [committing, State.asks]) (by rw [committing, State.asks])
  branches := by decide +kernel
  timers := by
    have h : ∀ b < Config.bays, ((committing.bay b).timer.held?.map fun p => p.fits (committing.bay b).state).getD true
        = true := by decide +kernel
    intro b hb p hp
    have := h b hb
    rw [hp] at this
    exact this
  held := by
    intro r hr b hs
    rcases List.mem_cons.mp hr with rfl | hr
    · cases hs
    · obtain rfl := List.mem_singleton.mp hr
      cases hs
  entries := by decide +kernel
  energised := by decide +kernel
  distinct := by decide +kernel
  queued := by decide +kernel
  waiting := by decide +kernel
  floors := floorsFit _ (by decide +kernel)
  ceilings := by decide +kernel
  inForce := by intro p h; cases h
  activePhases := by decide
  stagedPhases := by decide

/-- A switch with a session running, and a commit taken at once with a bay waiting; and a level whose floors fit. -/
theorem witness_ScheduleIsCommittedAndSwitched_budgets :
    (changing true).switchDue = true ∧ (changing true).armed = true ∧ (changing true).work = Work.none
      ∧ (changing true).ShareInv ∧ (changing true).Sharing (changing true).clock ∧ (changing true).energised ≠ []
      ∧ committing.Takes (ask 0x54 [0]) [] 0x54 7 ∧ periodsOf committing.active = [] ∧ committing.armed = false
      ∧ committing.ShareInv ∧ committing.Sharing committing.clock ∧ committing.queue 0 ≠ []
      ∧ (charging 0).FloorsFit ∧ (charging 0).PortsInv ∧ (charging 0).QueuesEmpty ∧ (charging 0).work = Work.none :=
  ⟨rfl, rfl, rfl, changing_inv _, sharingAt _ _ (by decide +kernel), by decide, takes _ _ _ rfl rfl rfl,
    by decide, rfl, committing_inv, sharingAt _ _ (by decide +kernel), by decide, floorsFit _ (by decide +kernel),
    ports _ rfl rfl, queuesEmpty _ (by decide), rfl⟩

/-- A CAUTION port with a POWER mark, with an ACCESS mark, and with LAMP or QUERY marks alone; and an ACTIVE one whose relay
frame is in a slot already. -/
theorem witness_FillServesTheMarksInOrder_caution :
    let slow (s : State) : State := { s with bp := { s.bp with link := { s.bp.link with state := .caution } } }
    let busy := (relayed 1).setBSlot 3 (.sending ⟨⟨7, 0, 0x20, 1, []⟩, .relay, 1, false⟩)
    (∀ fam ∈ families, (slow (owing fam)).bp.link.state = .caution ∧ (slow (owing fam)).bSlot 0 = .empty .none
        ∧ owed (slow (owing fam)) fam 1 = true)
      ∧ (∀ b < 128, owed (slow (owing .access)) .power b = false ∧ owed (slow (owing .lamp)) .power b = false
        ∧ owed (slow (owing .lamp)) .access b = false)
      ∧ busy.bSlot 3 = .sending ⟨⟨7, 0, 0x20, 1, []⟩, .relay, 1, false⟩ ∧ busy.bSlot 0 = .empty .none
      ∧ (∀ b < 128, ∀ fam ∈ families, owed busy fam b = false) := by
  refine ⟨?_, ?_, ?_, ?_, ?_⟩ <;> decide +kernel

/-- A record with the fields of an AMEND of it. -/
def amending (r : Reservation) (t : Timer) (xs : List Nat) : State :=
  State.asks { onBay0 (if r.state = .held then .held else .parked) t r with book := [r] } 0x41 ([0, 3] ++ xs)

theorem amending_takes (r : Reservation) (t : Timer) (xs : List Nat) :
    (amending r t xs).Takes (ask 0x41 ([0, 3] ++ xs)) [] 0x41 7 := takes _ _ _ rfl rfl rfl

/-- One AMEND for each check, at its bound: a start of 1,048,576 and a length of 5; both unchanged; a start of a HELD record
and a length of a waiting one; one tick beyond the horizon; now at the grace deadline; a HELD record's end at now. -/
theorem witness_AmendMovesTheWindow_refusals :
    let q (xs : List Nat) := parseAmend (ask 0x41 ([0, 3] ++ xs)).payload
    q [16, 0, 0, 0, 0] = some ⟨3, some 1048576, none⟩ ∧ q [255, 255, 255, 0, 5] = some ⟨3, none, some 5⟩
      ∧ q [255, 255, 255, 0, 0] = some ⟨3, none, none⟩
      ∧ q [0, 3, 232, 0, 0] = some ⟨3, some 1000, none⟩ ∧ (recA .held (some 0) 990).state ≠ .booked
      ∧ q [255, 255, 255, 0, 6] = some ⟨3, none, some 6⟩ ∧ (recA .waitingBay none 990).state = .waitingBay
      ∧ q [0, 37, 169, 0, 0] = some ⟨3, some 9641, none⟩ ∧ base.settings.horizon = 8640 ∧ diff 9641 base.clock = 8641
      ∧ q [0, 3, 220, 0, 0] = some ⟨3, some 988, none⟩ ∧ diff base.clock (plusTicks 988 (base.classOf 1).grace) = 0
      ∧ diff base.clock (plusTicks (recA .held (some 0) 994).start 6) = 0 := by
  decide +kernel

/-- A token with another record that meets the new window, and a bay bound to one. -/
theorem witness_AmendMovesTheWindow_unfit :
    let r := recA .booked (some 0) 1007
    let twin : Reservation := { recA .booked none 1070 with handle := 4 }
    let other : Reservation := { recA .booked (some 0) 1070 with handle := 4, token := 9 }
    intersects (minusTicks 1007 6) (plusTicks (plusTicks 1007 61) 3) twin.holdBegin twin.intervalEnd = true
      ∧ twin.token = r.token ∧ diff base.clock (plusTicks 1007 61) < 0
      ∧ ({ base with book := [r, other] } : State).bayFits 0 (some 3) (minusTicks 1007 6) (plusTicks (plusTicks 1007 61) 3)
          = false := by
  decide +kernel

/-- A BOOKED record that the new window makes due; a HELD one; a PARKED one with OVERSTAY running, ahead and not; and a
PARKED one whose new end, 60 ticks after its start, is now. -/
theorem witness_AmendMovesTheWindow_applied :
    let due := amending (recA .booked none 1070) .none [0, 3, 238, 0, 0]
    let held := amending (recA .held (some 0) 990) (.running 1002 .grace) [255, 255, 255, 0, 61]
    let late := amending (recA .parked (some 0) 940) (.running 1006 .overstay) [255, 255, 255, 0, 61]
    let cut := amending (recA .parked (some 0) 940) (.running 1001 .windowEnd) [255, 255, 255, 0, 20]
    due.Takes (ask 0x41 ([0, 3] ++ [0, 3, 238, 0, 0])) [] 0x41 7 ∧ due.LevelInv ∧ held.LevelInv ∧ late.LevelInv ∧ cut.LevelInv
      ∧ diff due.clock (minusTicks 1006 6) = 0 ∧ diff due.clock (plusTicks 1006 (due.classOf 1).grace) < 0
      ∧ due.classFits 1 .standard (some 3) (minusTicks 1006 6) (plusTicks (plusTicks 1006 60) 3) = true
      ∧ (held.find 3).map Reservation.state = some .held ∧ (held.bay 0).timer = .running 1002 .grace
      ∧ diff held.clock (plusTicks 990 61) < 0
      ∧ held.bayFits 0 (some 3) (minusTicks 990 6) (plusTicks (plusTicks 990 61) 3) = true
      ∧ held.classFits 1 .standard (some 3) (minusTicks 990 6) (plusTicks (plusTicks 990 61) 3) = true
      ∧ (late.bay 0).timer = .running 1006 .overstay ∧ diff (plusTicks (plusTicks 940 61) 6) late.clock = 7
      ∧ (cut.bay 0).timer = .running 1001 .windowEnd ∧ 0 ≤ diff cut.clock (plusTicks 940 20)
      ∧ diff cut.clock 940 = 60
      ∧ cut.bayFits 0 (some 3) (minusTicks 940 6) (plusTicks cut.clock 3) = true
      ∧ cut.classFits 1 .standard (some 3) (minusTicks 940 6) (plusTicks cut.clock 3) = true :=
  ⟨amending_takes _ _ _, levelInv _ (by decide +kernel), levelInv _ (by decide +kernel), levelInv _ (by decide +kernel),
    levelInv _ (by decide +kernel), by decide +kernel⟩

/-- The S-port with a notice PENDING and a reply SENDING, and 32 notices queued, the first the one in the slot. -/
def fullSite (tx rx : Nat) (begun : Bool) : State :=
  let s := siteItems .active (.sending replyFill) (.pending noticeFill)
  { s with sp := { s.sp with
    link := { s.sp.link with tx := tx, rx := rx }
    notices := (List.range 32).map fun i => ⟨i + 1, 0, false, 0, begun && i == 0, .bookCleared i⟩ } }

/-- One error from CAUTION on each count: the notice in the slot is the oldest, and held no longer once the slot is empty
unless its segment 0 has been sent. -/
theorem witness_ReceiveErrorsAreCounted_site :
    let s := fullSite 112 119
    let left (b : Bool) := (s b).sp.noticesReturned
    (s true).sp.link.state = .active ∧ (s true).sp.link.tx = 112 ∧ (s true).sp.link.rx = 119
      ∧ (s true).sSlot 0 = .sending replyFill ∧ (s true).sSlot 1 = .pending noticeFill
      ∧ noticeFill.item = .notice 1 ∧ (s true).sp.notices.length = 32
      ∧ (left true).slots[1] = .empty .aborted ∧ (left true).slots[0] = .sending replyFill
      ∧ (left false).inSlot (.notice 1) = false ∧ (left true).notices.map (left true).held = true :: List.replicate 31 false
      ∧ (left false).notices.map (left false).held = List.replicate 32 false := by
  decide +kernel

/-- R183, R184: an error that takes the S-port to CAUTION with a full queue leaves 32 notices, the last PORT_STATE; the one that
was in the slot stays first when its segment 0 has been sent (R197). -/
theorem test_caution_with_a_full_notice_queue :
    ∀ e ∈ [RxError.check, .form, .length], ∃ t, exec (.receiveError .s e) (fullSite 0 119 true) = .next t
      ∧ t.sp.notices.length = 32 ∧ (t.sp.notices.head?.map Notice.id) = some 1
      ∧ (t.sp.notices.getLast?.map Notice.body) = some (.portState .s .caution 0 120 (some (rxErrorKind e)) false .state) := by
  intro e he
  refine ⟨_, rfl, ?_⟩
  revert e
  decide +kernel

end Sys2Proof.Tests
end

section
/-! PROOFS. Modular time: the ring difference of two ticks and the ticks a duration away (R29). -/

namespace Sys2Proof.Proofs.Time

open Sys2Proof Machine

/-- The raw difference of R29: the ticks from b forward to a, below 1,048,576. -/
def rawDiff (a b : Tick) : Nat := (a.toNat + (1048576 - b.toNat)) % 1048576

theorem toNat_sub_eq_rawDiff (a b : Tick) : (a - b).toNat = rawDiff a b := by
  rw [BitVec.toNat_sub, Nat.add_comm, rawDiff]

theorem rawDiff_lt (a b : Tick) : rawDiff a b < 1048576 := Nat.mod_lt _ (by decide)

theorem diff_eq_rawDiff (a b : Tick) :
    diff a b = if rawDiff a b < 524288 then (rawDiff a b : Int) else (rawDiff a b : Int) - 1048576 := by
  simp only [diff, toNat_sub_eq_rawDiff]

theorem diff_bounds (a b : Tick) : -524288 ≤ diff a b ∧ diff a b ≤ 524287 := by
  have hlt := rawDiff_lt a b
  rw [diff_eq_rawDiff]
  split <;> omega

/-- The way back round the ring is the rest of the ring; two equal times are 0 apart both ways. -/
theorem rawDiff_swap (a b : Tick) : rawDiff b a = (1048576 - rawDiff a b) % 1048576 := by
  have ha := a.isLt
  have hb := b.isLt
  simp only [rawDiff]
  omega

theorem diff_of_rawDiff_half {a b : Tick} (h : rawDiff a b = 524288) : diff a b = -524288 := by
  simp [diff_eq_rawDiff, h]

theorem diff_swap_of_rawDiff_ne_half {a b : Tick} (h : rawDiff a b ≠ 524288) : diff b a = -diff a b := by
  have hlt := rawDiff_lt a b
  rw [diff_eq_rawDiff, diff_eq_rawDiff, rawDiff_swap]
  obtain h0 | hpos := Nat.eq_zero_or_pos (rawDiff a b)
  · simp [h0]
  · rw [Nat.mod_eq_of_lt (by omega : 1048576 - rawDiff a b < 1048576)]
    split <;> split <;> omega

/-- Half the ring apart is the one distance that does not tell its direction: either time reads as before the other. -/
theorem diff_swap (a b : Tick) :
    if rawDiff a b = 524288 then diff a b = -524288 ∧ diff b a = -524288 else diff b a = -diff a b := by
  split
  case isTrue half =>
    have back : rawDiff b a = 524288 := by rw [rawDiff_swap, half]
    exact ⟨diff_of_rawDiff_half half, diff_of_rawDiff_half back⟩
  case isFalse apart => exact diff_swap_of_rawDiff_ne_half apart

theorem plusTicks_toNat (a : Tick) (n : Nat) : (plusTicks a n).toNat = (a.toNat + n) % 1048576 := by
  simp [plusTicks, BitVec.toNat_add]

theorem plusTicks_minusTicks (a : Tick) (n : Nat) : plusTicks (minusTicks a n) n = a :=
  BitVec.sub_add_cancel a _

/-- Settles O8: the raw difference fixes the modular one, the way back is the rest of the ring, and a duration taken off
and put back gives the same time. -/
theorem modularDifference : Obligations.ModularDifference := by
  intro a b
  obtain ⟨lower, upper⟩ := diff_bounds a b
  have minus_add (n : Nat) : ((minusTicks a n).toNat + n) % 1048576 = a.toNat := by
    rw [← plusTicks_toNat, plusTicks_minusTicks]
  exact ⟨diff_eq_rawDiff a b, lower, upper, diff_swap a b, plusTicks_toNat a, minus_add⟩

end Sys2Proof.Proofs.Time
end

section
/-! PROOFS. The compare of the policy unit and its conditions (R73, R74): the results of the 16-bit subtraction, read back as
the true comparisons of the two values. -/

namespace Sys2Proof.Proofs.Compare

open Sys2Proof Machine

/-! ### The signed reading -/

theorem signed16_eq_toInt {n : Nat} (h : n < 65536) : signed16 n = (BitVec.ofNat 16 n).toInt := by
  rw [BitVec.toInt_eq_toNat_cond, BitVec.toNat_ofNat, Nat.mod_eq_of_lt h, signed16]
  split <;> split <;> omega

theorem signed16_bounds {n : Nat} (h : n < 65536) : -32768 ≤ signed16 n ∧ signed16 n ≤ 32767 := by
  simp only [signed16]
  split <;> omega

theorem signed16_inj {f k : Nat} (hf : f < 65536) (hk : k < 65536) : signed16 f = signed16 k ↔ f = k := by
  simp only [signed16]
  split <;> split <;> omega

/-- Two values on the same side of 32,768 are in the same order signed and unsigned. -/
theorem signed16_lt_iff_of_same_side {f k : Nat} (same : 32768 ≤ f ↔ 32768 ≤ k) : signed16 f < signed16 k ↔ f < k := by
  simp only [signed16]
  split <;> split <;> omega

section Results

variable {f k : Nat}

/-! ### The results of R73 -/

theorem cmpD_lt (f k : Nat) : cmpD f k < 65536 := Nat.mod_lt _ (by decide)

theorem cmpD_add_mod (hf : f < 65536) (hk : k < 65536) : (cmpD f k + k) % 65536 = f := by
  simp only [cmpD]
  omega

/-- D is the signed difference too, brought into 16 bits. -/
theorem cmpD_eq_signed (hk : k < 65536) : (cmpD f k : Int) = (signed16 f - signed16 k) % 65536 := by
  simp only [cmpD, signed16]
  split <;> split <;> omega

theorem cmpZ_iff (hf : f < 65536) (hk : k < 65536) : cmpZ f k = true ↔ f = k := by
  simp only [cmpZ, cmpD, beq_iff_eq]
  omega

theorem cmpC_iff : cmpC f k = true ↔ f < k := decide_eq_true_iff

theorem cmpS_iff : cmpS f k = true ↔ 32768 ≤ cmpD f k := decide_eq_true_iff

theorem cmpV_iff : cmpV f k = true ↔ signed16 f - signed16 k < -32768 ∨ 32767 < signed16 f - signed16 k := by
  simp [cmpV]

theorem cmpT_testBit (i : Nat) : (cmpT f k).testBit i = (f.testBit i && k.testBit i) := Nat.testBit_land f k i

/-- S is the sign of the signed difference, turned round when that difference does not fit 16 bits. -/
theorem cmpS_iff_of_cmpV (hf : f < 65536) (hk : k < 65536) :
    if cmpV f k = true then (cmpS f k = true ↔ 0 ≤ signed16 f - signed16 k)
    else (cmpS f k = true ↔ signed16 f - signed16 k < 0) := by
  have hD := cmpD_eq_signed (f := f) hk
  obtain ⟨loF, hiF⟩ := signed16_bounds hf
  obtain ⟨loK, hiK⟩ := signed16_bounds hk
  simp only [cmpV_iff, cmpS_iff]
  split <;> omega

/-- S unlike V is the sign of the signed difference itself: the two turns cancel. -/
theorem cmpS_ne_cmpV_iff (hf : f < 65536) (hk : k < 65536) :
    (cmpS f k != cmpV f k) = true ↔ signed16 f < signed16 k := by
  have sign := cmpS_iff_of_cmpV hf hk
  cases hV : cmpV f k
  case false =>
    rw [if_neg (by simp [hV])] at sign
    rw [Bool.bne_false, sign]
    omega
  case true =>
    rw [if_pos hV] at sign
    rw [Bool.bne_true, Bool.not_eq_true', ← Bool.not_eq_true, sign]
    omega

theorem cmpT_ne_zero_iff : cmpT f k ≠ 0 ↔ ∃ i, f.testBit i = true ∧ k.testBit i = true := by
  constructor
  · intro hT
    obtain ⟨i, hi⟩ := Nat.exists_testBit_of_ne_zero hT
    exact ⟨i, by simpa [cmpT_testBit] using hi⟩
  · rintro ⟨i, bothSet⟩ hT
    have hi := cmpT_testBit (f := f) (k := k) i
    simp [hT, bothSet] at hi

/-! ### The conditions of R74 as true comparisons -/

theorem eq_holds_iff (hf : f < 65536) (hk : k < 65536) : Condition.eq.holds f k = true ↔ f = k := cmpZ_iff hf hk

theorem ne_holds_iff (hf : f < 65536) (hk : k < 65536) : Condition.ne.holds f k = true ↔ f ≠ k := by
  simp [Condition.holds, ← cmpZ_iff hf hk]

theorem ult_holds_iff : Condition.ult.holds f k = true ↔ f < k := cmpC_iff

theorem uge_holds_iff : Condition.uge.holds f k = true ↔ k ≤ f := by
  simp [Condition.holds, cmpC]

theorem ugt_holds_iff (hf : f < 65536) (hk : k < 65536) : Condition.ugt.holds f k = true ↔ k < f := by
  have hZ := cmpZ_iff hf hk
  simp only [Condition.holds, Bool.and_eq_true, Bool.not_eq_true', ← Bool.not_eq_true, hZ, cmpC_iff]
  omega

theorem ule_holds_iff (hf : f < 65536) (hk : k < 65536) : Condition.ule.holds f k = true ↔ f ≤ k := by
  simp only [Condition.holds, Bool.or_eq_true, cmpZ_iff hf hk, cmpC_iff]
  omega

theorem lt_holds_iff (hf : f < 65536) (hk : k < 65536) : Condition.lt.holds f k = true ↔ signed16 f < signed16 k :=
  cmpS_ne_cmpV_iff hf hk

theorem ge_holds_iff (hf : f < 65536) (hk : k < 65536) : Condition.ge.holds f k = true ↔ signed16 k ≤ signed16 f := by
  have hlt := lt_holds_iff hf hk
  have hge : Condition.ge.holds f k = !Condition.lt.holds f k := by simp [Condition.holds, bne]
  rw [hge, Bool.not_eq_true', ← Bool.not_eq_true, hlt, not_lt]

theorem gt_holds_iff (hf : f < 65536) (hk : k < 65536) : Condition.gt.holds f k = true ↔ signed16 k < signed16 f := by
  have hgt : Condition.gt.holds f k = (Condition.ne.holds f k && Condition.ge.holds f k) := rfl
  rw [hgt, Bool.and_eq_true, ne_holds_iff hf hk, ge_holds_iff hf hk, ne_eq, ← signed16_inj hf hk]
  omega

theorem le_holds_iff (hf : f < 65536) (hk : k < 65536) : Condition.le.holds f k = true ↔ signed16 f ≤ signed16 k := by
  have hle : Condition.le.holds f k = (Condition.eq.holds f k || Condition.lt.holds f k) := rfl
  rw [hle, Bool.or_eq_true, eq_holds_iff hf hk, lt_holds_iff hf hk, ← signed16_inj hf hk]
  omega

/-- The signed conditions and the unsigned ones answer alike unless exactly one value is 32,768 or more. -/
theorem signed_holds_eq_unsigned (hf : f < 65536) (hk : k < 65536) (same : 32768 ≤ f ↔ 32768 ≤ k) :
    Condition.lt.holds f k = Condition.ult.holds f k ∧ Condition.ge.holds f k = Condition.uge.holds f k
    ∧ Condition.gt.holds f k = Condition.ugt.holds f k ∧ Condition.le.holds f k = Condition.ule.holds f k := by
  have hlt := signed16_lt_iff_of_same_side same
  have hgt := signed16_lt_iff_of_same_side same.symm
  refine ⟨?lt, ?ge, ?gt, ?le⟩ <;> rw [Bool.eq_iff_iff]
  case lt => rw [lt_holds_iff hf hk, ult_holds_iff, hlt]
  case ge => rw [ge_holds_iff hf hk, uge_holds_iff, ← not_lt, hlt, not_lt]
  case gt => rw [gt_holds_iff hf hk, ugt_holds_iff hf hk, hgt]
  case le => rw [le_holds_iff hf hk, ule_holds_iff hf hk, ← not_lt, hgt, not_lt]

theorem any_holds_iff_cmpT : Condition.any.holds f k = true ↔ cmpT f k ≠ 0 := bne_iff_ne

theorem none_holds_iff_cmpT : Condition.none.holds f k = true ↔ cmpT f k = 0 := beq_iff_eq

theorem any_holds_iff : Condition.any.holds f k = true ↔ ∃ i, f.testBit i = true ∧ k.testBit i = true :=
  any_holds_iff_cmpT.trans cmpT_ne_zero_iff

theorem none_holds_iff : Condition.none.holds f k = true ↔ ∀ i, ¬ (f.testBit i = true ∧ k.testBit i = true) := by
  rw [none_holds_iff_cmpT, ← not_exists, ← cmpT_ne_zero_iff, not_not]

end Results

/-- With a constant of 0 no member is shared. -/
theorem any_none_holds_zero (f : Nat) : Condition.any.holds f 0 = false ∧ Condition.none.holds f 0 = true := by
  simp [Condition.holds, cmpT]

/-- Settles O9: D is the signed difference brought into 16 bits, so S unlike V is that difference's sign, and each condition
is one of these comparisons or its complement. -/
theorem conditionsAreTheTrueComparisons : Obligations.ConditionsAreTheTrueComparisons := by
  refine ⟨fun f k hf hk => ?_, any_none_holds_zero⟩
  rw [← signed16_eq_toInt hf, ← signed16_eq_toInt hk]
  exact ⟨⟨cmpD_lt f k, cmpD_add_mod hf hk⟩, beq_iff_eq, cmpS_iff, cmpC_iff, cmpV_iff, cmpT_testBit, cmpS_iff_of_cmpV hf hk,
    ⟨rfl, rfl, rfl, rfl, rfl, rfl, rfl, rfl, rfl, rfl, any_holds_iff_cmpT, none_holds_iff_cmpT⟩,
    eq_holds_iff hf hk, ne_holds_iff hf hk, ult_holds_iff, uge_holds_iff, ugt_holds_iff hf hk, ule_holds_iff hf hk,
    lt_holds_iff hf hk, ge_holds_iff hf hk, gt_holds_iff hf hk, le_holds_iff hf hk, signed_holds_eq_unsigned hf hk,
    any_holds_iff, none_holds_iff, rfl⟩

end Sys2Proof.Proofs.Compare
end

section
/-! PROOFS. LOAD_POLICY with a condition code outside R66's list: R67 step 3 refuses it, and the model's decoder reads it as
NONE, so that the entry is written. -/

namespace Sys2Proof.Proofs.PolicyLoad

open Sys2Proof Machine

/-- The catch-all row of the decoder names the condition NONE, where it was to give no condition. -/
theorem condition_ofCode_of_gt {n : Nat} (h : 12 < n) : Condition.ofCode n = some Condition.none := by
  unfold Condition.ofCode
  split
  case h_14 => rfl
  all_goals omega

theorem entry_of_condition_gt {q : LoadPolicyReq} {fl : PolicyField} {ac : PolicyAction}
    (hf : PolicyField.ofCode q.field = some fl) (hc : 12 < q.condition) (ha : PolicyAction.ofCode q.action = some ac)
    (suited : ac.suits q.argument = true) : q.entry = some ⟨fl, .none, q.constant, ac, q.argument⟩ := by
  simp only [LoadPolicyReq.entry, hf, condition_ofCode_of_gt hc, ha, suited, if_true]

theorem ownLoadPolicy_of_entry {q : LoadPolicyReq} {e : PolicyEntry} (s : State) (hi : q.index < 64)
    (hv : q.valid = true) (he : q.entry = some e) : ownLoadPolicy q s = ⟨setPolicy q.index (some e) s, .ok, .none⟩ := by
  simp [ownLoadPolicy, Config.policyEntries, hi, hv, he]

/-- A load whose only fault is its condition code is answered OK and writes an entry with the condition NONE. -/
theorem exec_loadPolicy_of_condition_gt {s : State} {f : Frame} {rest : List Frame} {tag : Nat} {q : LoadPolicyReq}
    {fl : PolicyField} {ac : PolicyAction} (h : s.Takes f rest Kind.loadPolicy tag)
    (hq : parseLoadPolicy f.payload = some q) (hi : q.index < 64) (hv : q.valid = true)
    (hf : PolicyField.ofCode q.field = some fl) (hc : 12 < q.condition) (ha : PolicyAction.ofCode q.action = some ac)
    (suited : ac.suits q.argument = true) :
    exec .loadPolicy s = .next (State.answer
      { s with policy := s.policy.setIfInBounds q.index (some ⟨fl, .none, q.constant, ac, q.argument⟩) } f tag .ok .none) := by
  have own := ownLoadPolicy_of_entry (popS s) hi hv (entry_of_condition_gt hf hc ha suited)
  exact congrArg Host.Outcome.next ((takeRequest_takes h _ _ q hq).trans (congrArg (replyTo f tag) own))

theorem answer_results (s : State) (f : Frame) (tag : Nat) (r : Result) (body : ReplyBody) :
    (s.answer f tag r body).sp.replies.map Reply.result = s.sp.replies.map Reply.result ++ [r] := by
  simp [State.answer, Frame.reply]

/-- A LOAD_POLICY from the management node with tag 7, index 0, the valid flag set, field CLASS, condition code 13, constant
0, action ACCEPT and argument 0. -/
def condition13Frame : Frame := ⟨4, 1, Kind.loadPolicy, 240, [0, 7, 0, 1, 0, 13, 0, 0, 0, 0, 0]⟩

def condition13Request : LoadPolicyReq := ⟨0, true, 0, 13, 0, 0, 0⟩

/-- The part right after a full reset with that frame received. -/
def condition13State : State := { State.reset with sp := { SPort.reset with rxq := [condition13Frame] } }

theorem parse_condition13Frame : parseLoadPolicy condition13Frame.payload = some condition13Request := by decide

theorem condition13State_takes : condition13State.Takes condition13Frame [] Kind.loadPolicy 7 where
  head := rfl
  room := by decide
  noReset := rfl
  isKind := rfl
  hasTag := by decide
  permitted _ := rfl

/-- Refutes O39: a valid load with condition code 13, which R67 refuses BAD_FIELD, is answered OK after a full reset. -/
theorem not_loadsWriteThePolicyAndTheSchedule : ¬ Obligations.LoadsWriteThePolicyAndTheSchedule := by
  rintro ⟨loadPolicy, -⟩
  obtain ⟨-, -, ofValid⟩ :=
    loadPolicy _ _ _ _ condition13Request condition13State_takes parse_condition13Frame
  have refused := (ofValid (by decide) rfl).1 (.inr (.inl (by decide)))
  have written := exec_loadPolicy_of_condition_gt condition13State_takes parse_condition13Frame (by decide) rfl
    (fl := .cls) rfl (by decide) (ac := .accept) rfl rfl
  have sameState := Host.Outcome.next.inj (written.symm.trans refused)
  have sameResults := congrArg (fun t : State => t.sp.replies.map Reply.result) sameState
  rw [answer_results, answer_results] at sameResults
  exact absurd sameResults (by decide)

end Sys2Proof.Proofs.PolicyLoad
end
